-- ==== Sys2Proof/Word.lean ====
section
/-! DEFINITION. The word types of the block: one byte, a byte string, and the 32-bit count of the read cursor
(`00_scope.md` R7, R8; `20_memory.md` R53: the protocol has no wider binary integer). -/

namespace Sys2Proof

/-- One byte, an unsigned value 0 to 255 (`00_scope.md` R8). -/
abbrev Byte := BitVec 8

/-- A finite byte string, indexed from 0 (`00_scope.md` R8). -/
abbrev Bytes := List Byte

/-- The 32-bit unsigned counter `CNT_W` (`00_scope.md` R7, `10_state.md` R25). -/
abbrev Count32 := BitVec 32

end Sys2Proof
end

