-- ==== Sys2Proof/Syntax.lean ====
section
/-! DEFINITION. The instructions: one constructor per row of `spec/opcode_table.json`, in the table's order. An
instruction is one payload; its operand is `prm`, the params bytes after the CommandId (`30_encoding.md` R77). The
params stay bytes here, because EV_RECEIVED reports them as they came (`41_dispatch.md` R142) and a params error is an
answer of the command, not a decoding error (`60_exceptions.md` R222). -/

namespace Sys2Proof

/-- The 24 assigned commands (`30_encoding.md` R87). -/
inductive Instr where
  | ping (prm : Bytes)
  | readCard (prm : Bytes)
  | accessEvent (prm : Bytes)
  | checkTime (prm : Bytes)
  | getTime (prm : Bytes)
  | setWorkType (prm : Bytes)
  | addPerson (prm : Bytes)
  | clearPersons (prm : Bytes)
  | delPerson (prm : Bytes)
  | mifare52 (prm : Bytes)
  | mifare54 (prm : Bytes)
  | mifare55 (prm : Bytes)
  | mifare56 (prm : Bytes)
  | mifare58 (prm : Bytes)
  | mifare59 (prm : Bytes)
  | mifare62 (prm : Bytes)
  | mifare63 (prm : Bytes)
  | mifare70 (prm : Bytes)
  | mifare71 (prm : Bytes)
  | setProtocolMode (prm : Bytes)
  | ackLog (prm : Bytes)
  | personCount (prm : Bytes)
  | logStatus (prm : Bytes)
  | clearLog (prm : Bytes)
deriving DecidableEq, Repr

/-- The params bytes of an instruction (`30_encoding.md` R77). -/
def Instr.params : Instr → Bytes
  | .ping prm => prm
  | .readCard prm => prm
  | .accessEvent prm => prm
  | .checkTime prm => prm
  | .getTime prm => prm
  | .setWorkType prm => prm
  | .addPerson prm => prm
  | .clearPersons prm => prm
  | .delPerson prm => prm
  | .mifare52 prm => prm
  | .mifare54 prm => prm
  | .mifare55 prm => prm
  | .mifare56 prm => prm
  | .mifare58 prm => prm
  | .mifare59 prm => prm
  | .mifare62 prm => prm
  | .mifare63 prm => prm
  | .mifare70 prm => prm
  | .mifare71 prm => prm
  | .setProtocolMode prm => prm
  | .ackLog prm => prm
  | .personCount prm => prm
  | .logStatus prm => prm
  | .clearLog prm => prm

/-- Why a payload is no instruction. Neither is an error of the protocol: each gives no response (`30_encoding.md`
R88, R90). -/
inductive Reject where
  /-- The payload has no CommandId (`30_encoding.md` R90). -/
  | emptyPayload
  /-- The CommandId has no row (`30_encoding.md` R88, `42_commands.md` R189). -/
  | unassigned (id : Byte) (prm : Bytes)
deriving DecidableEq, Repr

end Sys2Proof
end

