-- ==== Sys2Proof/WellFormed.lean ====
section
/-! DEFINITION. The one check on an instruction: its payload fits a frame. -/

namespace Sys2Proof

/-- Params are 0 to 251 bytes, so that CommandId and params fit the 252 bytes of a payload (`30_encoding.md` R71, R77).
Everything else about params is decided by the command when it runs (`60_exceptions.md` R222). -/
def Instr.wf (i : Instr) : Bool := decide (i.params.length ≤ 251)

end Sys2Proof
end

