-- ==== Sys2Proof/Decode.lean ====
section
/-! DEFINITION. Payload to instruction and back (`30_encoding.md` R77, R87, R94). The frame around a payload is
`Machine/Frame.lean`. -/

namespace Sys2Proof

/-- One row of the opcode table: a payload selects it when `(P[0] and mask) = pattern` (`30_encoding.md` R94). -/
structure OpcodeRow where
  pattern : Byte
  mask : Byte
  build : Bytes → Instr

/-- The CommandId map of `30_encoding.md` R87, in its order; every row has mask 0xFF (R94). -/
def opcodeTable : List OpcodeRow :=
  [ ⟨0x0A, 0xFF, .ping⟩,
    ⟨0x0B, 0xFF, .readCard⟩,
    ⟨0x11, 0xFF, .accessEvent⟩,
    ⟨0x15, 0xFF, .checkTime⟩,
    ⟨0x16, 0xFF, .getTime⟩,
    ⟨0x18, 0xFF, .setWorkType⟩,
    ⟨0x1F, 0xFF, .addPerson⟩,
    ⟨0x20, 0xFF, .clearPersons⟩,
    ⟨0x21, 0xFF, .delPerson⟩,
    ⟨0x34, 0xFF, .mifare52⟩,
    ⟨0x36, 0xFF, .mifare54⟩,
    ⟨0x37, 0xFF, .mifare55⟩,
    ⟨0x38, 0xFF, .mifare56⟩,
    ⟨0x3A, 0xFF, .mifare58⟩,
    ⟨0x3B, 0xFF, .mifare59⟩,
    ⟨0x3E, 0xFF, .mifare62⟩,
    ⟨0x3F, 0xFF, .mifare63⟩,
    ⟨0x46, 0xFF, .mifare70⟩,
    ⟨0x47, 0xFF, .mifare71⟩,
    ⟨0x65, 0xFF, .setProtocolMode⟩,
    ⟨0x6F, 0xFF, .ackLog⟩,
    ⟨0xF8, 0xFF, .personCount⟩,
    ⟨0xF9, 0xFF, .logStatus⟩,
    ⟨0xFA, 0xFF, .clearLog⟩ ]

/-- Does a CommandId select a row (`30_encoding.md` R94)? -/
def OpcodeRow.selects (r : OpcodeRow) (id : Byte) : Bool := (id &&& r.mask) == r.pattern

/-- Total on any payload: the instruction of the row its first byte selects, or a rejection by name
(`41_dispatch.md` R140, R143; `30_encoding.md` R88, R90). -/
def decode : Bytes → Except Reject Instr
  | [] => .error .emptyPayload
  | id :: prm =>
    match opcodeTable.find? (fun r => r.selects id) with
    | some r => .ok (r.build prm)
    | none => .error (.unassigned id prm)

/-- The CommandId of each instruction (`30_encoding.md` R87). -/
def Instr.commandId : Instr → Byte
  | .ping _ => 10
  | .readCard _ => 11
  | .accessEvent _ => 17
  | .checkTime _ => 21
  | .getTime _ => 22
  | .setWorkType _ => 24
  | .addPerson _ => 31
  | .clearPersons _ => 32
  | .delPerson _ => 33
  | .mifare52 _ => 52
  | .mifare54 _ => 54
  | .mifare55 _ => 55
  | .mifare56 _ => 56
  | .mifare58 _ => 58
  | .mifare59 _ => 59
  | .mifare62 _ => 62
  | .mifare63 _ => 63
  | .mifare70 _ => 70
  | .mifare71 _ => 71
  | .setProtocolMode _ => 101
  | .ackLog _ => 111
  | .personCount _ => 248
  | .logStatus _ => 249
  | .clearLog _ => 250

/-- The payload of an instruction: CommandId, then params (`30_encoding.md` R77). -/
def encode (i : Instr) : Bytes := i.commandId :: i.params

/-- The payload whose bytes are the bits of `w`, first byte in bits 7..0 (log 11). -/
def payloadOfWord (nbits w : Nat) : Bytes :=
  (List.range ((nbits + 7) / 8)).map (fun k => BitVec.ofNat 8 (w >>> (8 * k)))

/-- The instruction the decoder reads from a payload of `nbits` bits; what the payload does not hold are no params, not
zero params, because a payload's length is its own (`30_encoding.md` R71, R77; log 11). -/
def decodeTableWord (nbits w : Nat) : Option Instr :=
  match decode (payloadOfWord nbits w) with
  | .ok i => some i
  | .error _ => none

end Sys2Proof
end

