-- ==== Sys2Proof/Machine/Data.lean ====
section
/-! DEFINITION. The data the block stores, takes in and gives out: the records and enumerations of `10_state.md`,
`41_dispatch.md` R155 and `60_exceptions.md` R221, R237, R240. -/

namespace Sys2Proof.Machine

/-- A calendar date. A person's is a valid Gregorian date of year 2000 to 2099 (`10_state.md` R23). -/
structure Date where
  day : Nat
  month : Nat
  year : Nat
deriving DecidableEq, Repr, Inhabited

/-- A time of day (`41_dispatch.md` R149). -/
structure Hms where
  hour : Nat
  minute : Nat
  second : Nat
deriving DecidableEq, Repr, Inhabited

/-- A DateTime: six naturals (`41_dispatch.md` R155). -/
structure DateTime where
  year : Nat
  month : Nat
  day : Nat
  hour : Nat
  minute : Nat
  second : Nat
deriving DecidableEq, Repr, Inhabited

/-- One enrolled person (`10_state.md` R23). -/
structure Person where
  cardId : Bytes
  table : Bytes
  validUntil : Date
  name : Bytes
deriving DecidableEq, Repr

/-- One attendance record (`10_state.md` R24). -/
structure Attendance where
  ts : DateTime
  cardId : Bytes
deriving DecidableEq, Repr

/-- The work type; the 2-bit value 0 is never held (`10_state.md` R26). -/
inductive WorkType where
  | online
  | offline
  | onOff
deriving DecidableEq, Repr

/-- The protocol mode, one stored bit (`10_state.md` R29). -/
inductive ProtocolMode where
  | client
  | server
deriving DecidableEq, Repr

/-- What the receive framer expects next (`10_state.md` R30). -/
inductive RxState where
  /-- An STX opening a span. -/
  | hunt
  /-- The byte after the first STX. -/
  | stx1
  /-- The ReaderId, after a duplicated STX. -/
  | rid
  /-- The byte in the 0xFF position. -/
  | ffb
  /-- The Length byte. -/
  | len
  /-- `rxRem` more bytes of the span. -/
  | body
  /-- Nothing: a response is being sent. -/
  | txb
deriving DecidableEq, Repr

/-- The frame errors (`60_exceptions.md` R221); code 0, NONE, is the absence of one (`FrameError.codeOf`). -/
inductive FrameError where
  | missingStart
  | missingEnd
  | truncated
  | checksumMismatch
  | lengthMismatch
  | payloadTooLong
deriving DecidableEq, Repr

/-- The field an EV_CONFIG_COERCED event names (`60_exceptions.md` R240, R241). -/
inductive CoercedField where
  | workType
  | protocolMode
deriving DecidableEq, Repr

/-- The records of the event port EVT (`60_exceptions.md` R240). -/
inductive Event where
  | frameError (code : FrameError)
  | received (id : Byte) (prm : Bytes)
  | accessGranted (ts : Option DateTime) (ident : Bytes)
  | accessDenied
  | configCoerced (field : CoercedField) (value : Byte)
deriving DecidableEq, Repr

/-- The acknowledgements of INJECT (`60_exceptions.md` R237). -/
inductive InjAck where
  | ok
  | bad
  | full
deriving DecidableEq, Repr

/-- The configuration inputs, sampled at RESET only (`10_state.md` R27). -/
structure ConfigInputs where
  readerId : Byte
  randomReads : Bool
  requestLogging : Bool
  workType : Byte
  protocolMode : Byte
deriving DecidableEq, Repr

/-- The environment's pick of the next step (`00_scope.md` R6, `10_state.md` R35). -/
inductive Choice where
  /-- The block takes the next inbound byte, if it is ready for one. -/
  | rx
  /-- The environment takes one outbound byte, if one is offered. -/
  | tx
  /-- The connection ended. -/
  | linkReset
  /-- One attendance record is presented. -/
  | inject (ts : DateTime) (cid : Bytes)
  /-- RESET with the configuration inputs of that moment. -/
  | reset (cfg : ConfigInputs)
deriving DecidableEq, Repr

end Sys2Proof.Machine
end

