-- ==== Sys2Proof/Config.lean ====
section
/-! DEFINITION. What is fixed for one machine, and the free values. A constant declared opaque has no body: nothing
can be proved of it but its type, so a claim holds whatever it is. -/

namespace Sys2Proof.Config

/-- `MAX_PAYLOAD` (`00_scope.md` R7). -/
def maxPayload : Nat := 252

/-- `MAX_SPAN` (`00_scope.md` R7). -/
def maxSpan : Nat := 260

/-- `MAX_NAME` (`00_scope.md` R7). -/
def maxName : Nat := 235

/-- MAX_PERSONS less one: OPEN in the spec (`00_scope.md` R7; log 7). -/
opaque maxPersonsLessOne : Fin 99999

/-- `MAX_PERSONS`, any value with 1 ≤ MAX_PERSONS ≤ 99999 (`00_scope.md` R7; log 7). -/
def maxPersons : Nat := maxPersonsLessOne.val + 1

/-- MAX_LOG less one: OPEN in the spec (`00_scope.md` R7; log 7). -/
opaque maxLogLessOne : Fin 4294967295

/-- `MAX_LOG`, any value with 1 ≤ MAX_LOG ≤ 2^32 − 1 (`00_scope.md` R7; log 7). -/
def maxLog : Nat := maxLogLessOne.val + 1

/-- MAX_ATT_CARDID less one: OPEN in the spec (`00_scope.md` R7; log 7). -/
opaque maxAttCardIdLessOne : Fin 225

/-- `MAX_ATT_CARDID`, any value with 1 ≤ MAX_ATT_CARDID ≤ 225 (`00_scope.md` R7; log 7). -/
def maxAttCardId : Nat := maxAttCardIdLessOne.val + 1

/-- The `n`-th draw of the random input, when the state lists none (`10_state.md` R31; log 5). -/
opaque rnd : Nat → Bool

/-- The `n`-th sample of the clock input, when the state lists none (`10_state.md` R32; log 6). -/
opaque rtc : Nat → Machine.DateTime

/-- The default configuration inputs (`10_state.md` R27). -/
def defaultInputs : Machine.ConfigInputs :=
  { readerId := 150, randomReads := false, requestLogging := false, workType := 3, protocolMode := 0 }

end Sys2Proof.Config
end

