-- ==== Sys2Proof/Machine/State.lean ====
section
/-! DEFINITION. The state: the fields of `10_state.md` R22, the fact that a RESET has happened (R39), and the ports of
R35 as plain data (the model's own fields: logs 1, 2, 5, 6, 8). -/

namespace Sys2Proof.Machine

/-- The block's state and its ports. The first twelve fields are the spec's (`10_state.md` R22). -/
structure State where
  /-- The roster, oldest first (`10_state.md` R23). -/
  persons : List Person
  /-- The attendance log, oldest first (`10_state.md` R24). -/
  attLog : List Attendance
  /-- How many log records the peer has acknowledged (`10_state.md` R25). -/
  readCursor : Count32
  /-- `10_state.md` R26. -/
  workType : WorkType
  /-- `10_state.md` R29. -/
  protocolMode : ProtocolMode
  /-- The reader id of every response frame (`10_state.md` R28). -/
  ridReg : Byte
  /-- Enables the random branch of command 11 (`10_state.md` R28). -/
  rndEn : Bool
  /-- Enables EV_RECEIVED (`10_state.md` R28). -/
  rlogEn : Bool
  /-- What the framer expects next (`10_state.md` R30). -/
  rxSt : RxState
  /-- The bytes of the span collected so far (`10_state.md` R30). -/
  rxBuf : Bytes
  /-- Span bytes still expected in BODY (`10_state.md` R30). -/
  rxRem : Byte
  /-- The bytes of the response not yet sent (`10_state.md` R34). -/
  txQ : Bytes
  /-- A RESET has happened (`10_state.md` R39; log 4). -/
  live : Bool
  /-- The environment's picks still to come, next first (log 1). -/
  sched : List Choice
  /-- Inbound bytes the environment holds, next first (`40_frame_codec.md` R118; log 2). -/
  rxIn : Bytes
  /-- The environment's next values of `rnd` (`10_state.md` R31; log 5). -/
  rndIn : List Bool
  /-- How often `rnd` was drawn (log 5). -/
  draws : Nat
  /-- The environment's next values of `rtc` (`10_state.md` R32; log 6). -/
  rtcIn : List DateTime
  /-- How often `rtc` was sampled (log 6). -/
  samples : Nat
  /-- Bytes sent on the outbound stream, oldest first (log 8). -/
  txOut : Bytes
  /-- Events emitted, oldest first (`60_exceptions.md` R240; log 8). -/
  evt : List Event
  /-- INJECT acknowledgements given, oldest first (`60_exceptions.md` R237; log 8). -/
  acks : List InjAck
deriving DecidableEq, Repr

/-- Why the machine stops. -/
inductive Fault where
  /-- Raised by `step` for anything but a RESET before the first RESET: the block takes no step there, "the stuck
  reading, not a value" (`10_state.md` R39). Safe: the hardware does nothing here either. -/
  | beforeReset
deriving DecidableEq, Repr

/-- Why an instruction has no meaning. -/
inductive Refusal where
  /-- Raised by `exec` for an instruction not modelled yet; no arm of `exec` answers it. Safe: a refusal proves nothing. -/
  | notModelled (mnemonic : String)
deriving DecidableEq, Repr

/-- The machine right after RESET with the default configuration inputs (`70_reset_and_hazards.md` R250, `10_state.md`
R27; log 9), nothing offered to it and nothing given out yet. -/
def State.reset : State :=
  { persons := []
    attLog := []
    readCursor := 0
    workType := .onOff
    protocolMode := .client
    ridReg := 150
    rndEn := false
    rlogEn := false
    rxSt := .hunt
    rxBuf := []
    rxRem := 0
    txQ := []
    live := true
    sched := []
    rxIn := []
    rndIn := []
    draws := 0
    rtcIn := []
    samples := 0
    txOut := []
    evt := []
    acks := [] }

end Sys2Proof.Machine
end

