-- ==== Sys2Proof/Machine/Flags.lean ====
section
/-! DEFINITION. The block has no status flags (`10_state.md` R37). What it shows beside its data are two handshake
outputs (R35) and the numbers the spec gives its enumerations. -/

namespace Sys2Proof.Machine

/-- The output `rx_ready` (`10_state.md` R35, `40_frame_codec.md` R118). -/
def rxReady (s : State) : Bool := s.rxSt != .txb

/-- The output `tx_valid` (`10_state.md` R35, `40_frame_codec.md` R119). -/
def txValid (s : State) : Bool := !s.txQ.isEmpty

/-- The 2-bit encoding of the work type (`10_state.md` R26). -/
def workTypeBits : WorkType → BitVec 2
  | .online => 1
  | .offline => 2
  | .onOff => 3

/-- The 1-bit encoding of the protocol mode (`10_state.md` R29). -/
def protocolModeBits : ProtocolMode → BitVec 1
  | .client => 0
  | .server => 1

/-- The 3-bit encoding of the framer state (`10_state.md` R30). -/
def rxStateBits : RxState → BitVec 3
  | .hunt => 0
  | .stx1 => 1
  | .rid => 2
  | .ffb => 3
  | .len => 4
  | .body => 5
  | .txb => 6

/-- The 3-bit frame-error code; 0, NONE, means no error (`60_exceptions.md` R221). -/
def frameErrorCode : Option FrameError → BitVec 3
  | none => 0
  | some .missingStart => 1
  | some .missingEnd => 2
  | some .truncated => 3
  | some .checksumMismatch => 4
  | some .lengthMismatch => 5
  | some .payloadTooLong => 6

/-- The INJECT acknowledgement code (`60_exceptions.md` R237). -/
def injAckCode : InjAck → Nat
  | .ok => 0
  | .bad => 1
  | .full => 2

/-- The number of the field in EV_CONFIG_COERCED (`60_exceptions.md` R240). -/
def coercedFieldCode : CoercedField → Nat
  | .workType => 0
  | .protocolMode => 1

end Sys2Proof.Machine
end

