-- ==== Sys2Proof/Machine/Operands.lean ====
section
/-! DEFINITION. The field parsers and formatters of `41_dispatch.md` R146 to R155, the parameter grammars of
`30_encoding.md` R78 to R84 and the response payloads of R86. -/

namespace Sys2Proof.Machine

/-- The substring `B[a..b)` (`00_scope.md` R8). -/
def slice (B : Bytes) (a b : Nat) : Bytes := (B.drop a).take (b - a)

/-! ### Fixed response payloads (`00_scope.md` R11) -/

/-- `OK` = "o". -/
def OK : Bytes := [0x6F]

/-- `ERR` = "h". -/
def ERR : Bytes := [0x68]

/-- `PERR` = "n". -/
def PERR : Bytes := [0x6E]

/-- `EMPTY_CARD` = "a00". -/
def EMPTY_CARD : Bytes := [0x61, 0x30, 0x30]

/-- `FILLED_CARD` = "b00D32EF4CF". -/
def FILLED_CARD : Bytes := [0x62, 0x30, 0x30, 0x44, 0x33, 0x32, 0x45, 0x46, 0x34, 0x43, 0x46]

/-! ### Parsers -/

/-- `Digit(c)`: only 0x30 to 0x39 are digits (`41_dispatch.md` R146). -/
def digit? (c : Byte) : Option Nat :=
  if 0x30 ≤ c.toNat ∧ c.toNat ≤ 0x39 then some (c.toNat - 0x30) else none

/-- The number the digits `ds` append to the digits read so far, `acc` (`41_dispatch.md` R147). -/
def numFrom (acc : Nat) : Bytes → Option Nat
  | [] => some acc
  | c :: ds =>
    match digit? c with
    | some d => numFrom (10 * acc + d) ds
    | none => none

/-- `Num(P, a, w)`: the decimal number in the `w` bytes at `a`, most significant digit first (`41_dispatch.md` R147). -/
def num? (P : Bytes) (a w : Nat) : Option Nat :=
  if a + w > P.length then none else numFrom 0 (slice P a (a + w))

/-- `Leap(y)` (`41_dispatch.md` R148). -/
def leap (y : Nat) : Bool :=
  (y % 4 == 0 && y % 100 != 0) || y % 400 == 0

/-- `DaysIn(m, y)` (`41_dispatch.md` R148); a month outside 1 to 12 has no days, so no date in it is valid. -/
def daysIn (m y : Nat) : Nat :=
  if m ∈ [1, 3, 5, 7, 8, 10, 12] then 31
  else if m ∈ [4, 6, 9, 11] then 30
  else if m = 2 then (if leap y then 29 else 28)
  else 0

/-- `ValidDate(d, m, y)` (`41_dispatch.md` R148). -/
def validDate (d m y : Nat) : Bool :=
  decide (1 ≤ y ∧ y ≤ 9999 ∧ 1 ≤ m ∧ m ≤ 12 ∧ 1 ≤ d ∧ d ≤ daysIn m y)

/-- `ValidDateTime(t)` (`41_dispatch.md` R155). -/
def validDateTime (t : DateTime) : Bool :=
  validDate t.day t.month t.year && decide (t.hour ≤ 23 ∧ t.minute ≤ 59 ∧ t.second ≤ 59)

/-- `ParseHMS(P, a)`: `HHmmss` on a 24-hour clock (`41_dispatch.md` R149). -/
def parseHms (P : Bytes) (a : Nat) : Option Hms :=
  match num? P a 2, num? P (a + 2) 2, num? P (a + 4) 2 with
  | some hh, some mi, some ss => if hh > 23 ∨ mi > 59 ∨ ss > 59 then none else some ⟨hh, mi, ss⟩
  | _, _, _ => none

/-- `ParseDMY2(P, a)`: `ddMMyy`, year 2000 + yy (`41_dispatch.md` R150). -/
def parseDmy2 (P : Bytes) (a : Nat) : Option Date :=
  match num? P a 2, num? P (a + 2) 2, num? P (a + 4) 2 with
  | some dd, some mo, some yy => if validDate dd mo (2000 + yy) then some ⟨dd, mo, 2000 + yy⟩ else none
  | _, _, _ => none

/-- `ParseDMY4(P, a)`: `ddMMyyyy` (`41_dispatch.md` R151). -/
def parseDmy4 (P : Bytes) (a : Nat) : Option Date :=
  match num? P a 2, num? P (a + 2) 2, num? P (a + 4) 4 with
  | some dd, some mo, some y => if validDate dd mo y then some ⟨dd, mo, y⟩ else none
  | _, _, _ => none

/-- `IsoWeekday(y, m, d)`: Monday 1 to Sunday 7 (`41_dispatch.md` R152; a month outside 1 to 12: log 6). -/
def isoWeekday (y m d : Nat) : Nat :=
  let t := [0, 3, 2, 5, 0, 3, 5, 1, 4, 6, 2, 4]
  let y' := if m < 3 then y - 1 else y
  let w := (y' + y' / 4 - y' / 100 + y' / 400 + t.getD (m - 1) 0 + d) % 7
  if w = 0 then 7 else w

/-! ### Formatters -/

/-- The ASCII byte 0x30 + v (`30_encoding.md` R86). -/
def digitByte (v : Nat) : Byte := BitVec.ofNat 8 (0x30 + v)

/-- The `w` low decimal digits of `v`, most significant first. -/
def lowDigits : Nat → Nat → Bytes
  | 0, _ => []
  | w + 1, v => lowDigits w (v / 10) ++ [digitByte (v % 10)]

/-- All decimal digits of `v`, none for 0; `fuel` is any number at least the count of them. -/
def allDigits : Nat → Nat → Bytes
  | 0, _ => []
  | fuel + 1, v => if v = 0 then [] else allDigits fuel (v / 10) ++ [digitByte (v % 10)]

/-- `Dec(v, w)`: decimal, zero-padded on the left to at least `w` digits, longer where `v` needs it (`41_dispatch.md`
R153). -/
def dec (v w : Nat) : Bytes := allDigits (v / 10 ^ w) (v / 10 ^ w) ++ lowDigits w v

/-- `Fmt2(v)` (`41_dispatch.md` R154). -/
def fmt2 (v : Nat) : Bytes := dec v 2

/-- `Stamp(t)`: `HHmmss`, "0", the ISO weekday digit, `ddMMyy` (`41_dispatch.md` R154). -/
def stamp (t : DateTime) : Bytes :=
  fmt2 t.hour ++ fmt2 t.minute ++ fmt2 t.second
    ++ [0x30] ++ [digitByte (isoWeekday t.year t.month t.day)]
    ++ fmt2 t.day ++ fmt2 t.month ++ fmt2 (t.year % 100)

/-! ### Parameter grammars -/

/-- G_SIGN after `'+'`: the event of command 17, with no timestamp and no identifier where the timestamp is malformed
(`30_encoding.md` R79, `42_commands.md` R172). -/
def accessGrantedEvent (prm : Bytes) : Event :=
  match parseHms prm 1, parseDmy4 prm 7 with
  | some t, some d => .accessGranted (some ⟨d.year, d.month, d.day, t.hour, t.minute, t.second⟩) (prm.drop 15)
  | _, _ => .accessGranted none []

/-- G_TIME14: do the time and the date parse and the weekday digit agree (`30_encoding.md` R80, `42_commands.md` R173)?
The filler byte at offset 6 is not looked at. -/
def timeAgrees (prm : Bytes) : Bool :=
  if prm.length ≠ 14 then false
  else
    match parseHms prm 0, parseDmy2 prm 8 with
    | some _, some d => prm[7]? == some (digitByte (isoWeekday d.year d.month d.day))
    | _, _ => false

/-- G_DIGIT1 of command 24: exactly "1", "2" or "3" (`30_encoding.md` R81, `42_commands.md` R175). -/
def workTypeParam (prm : Bytes) : Option WorkType :=
  if prm = [0x31] then some .online
  else if prm = [0x32] then some .offline
  else if prm = [0x33] then some .onOff
  else none

/-- G_DIGIT1 of command 101: exactly "0" or "1" (`30_encoding.md` R81, `42_commands.md` R195). -/
def protocolModeParam (prm : Bytes) : Option ProtocolMode :=
  if prm = [0x30] then some .client
  else if prm = [0x31] then some .server
  else none

/-- G_PERSON: at least 16 bytes with a date that parses (`30_encoding.md` R82, `42_commands.md` R176). -/
def personParam (prm : Bytes) : Option Person :=
  if prm.length < 16 then none
  else
    match parseDmy2 prm 10 with
    | some d => some { cardId := slice prm 0 8, table := slice prm 8 10, validUntil := d, name := prm.drop 16 }
    | none => none

/-- G_DEL: exactly "DEL" (`30_encoding.md` R84, `42_commands.md` R199). -/
def isDel (prm : Bytes) : Bool := prm == [0x44, 0x45, 0x4C]

/-! ### Response payloads -/

/-- RF_ENTRY: the answer of command 11 for a pending record (`30_encoding.md` R86, `42_commands.md` R171). -/
def entryPayload (a : Attendance) : Bytes :=
  [0x64, 0x30, 0x30] ++ stamp a.ts ++ a.cardId
    ++ [0x30, 0x31, 0x30, 0x31, 0x30, 0x30, 0x30, 0x30, 0x30, 0x31]

/-- RF_TIME: the answer of command 22 (`30_encoding.md` R86, `42_commands.md` R174). -/
def timePayload (t : DateTime) : Bytes := [0x63] ++ stamp t

/-- RF_CNT5: the answer of command 248 (`30_encoding.md` R86, `42_commands.md` R197). -/
def count5Payload (n : Nat) : Bytes := [0x7A] ++ dec n 5

/-- RF_CNT10X2: the answer of command 249 (`30_encoding.md` R86, `42_commands.md` R198). -/
def count10x2Payload (n c : Nat) : Bytes := [0x7A] ++ dec n 10 ++ dec c 10

/-! ### Configuration inputs -/

/-- The work type a configuration input stands for, none out of range (`70_reset_and_hazards.md` R251). -/
def workTypeInput (v : Byte) : Option WorkType :=
  if v = 1 then some .online
  else if v = 2 then some .offline
  else if v = 3 then some .onOff
  else none

/-- The protocol mode a configuration input stands for, none out of range (`70_reset_and_hazards.md` R251). -/
def protocolModeInput (v : Byte) : Option ProtocolMode :=
  if v = 0 then some .client
  else if v = 1 then some .server
  else none

/-- May INJECT store this record: a valid DateTime and 1 to MAX_ATT_CARDID printable ASCII bytes (`10_state.md` R33)? -/
def injectable (ts : DateTime) (cid : Bytes) : Bool :=
  validDateTime ts && decide (1 ≤ cid.length ∧ cid.length ≤ Config.maxAttCardId)
    && cid.all (fun c => decide (0x20 ≤ c.toNat ∧ c.toNat ≤ 0x7E))

end Sys2Proof.Machine
end

