-- ==== Sys2Proof/Machine/Frame.lean ====
section
/-! DEFINITION. The frame codec of `40_frame_codec.md`: Checksum, HexU, Encode, Decode and Validate (R100 to R109), on
whole byte strings. -/

namespace Sys2Proof.Machine

/-- Start of text (`00_scope.md` R11). -/
def STX : Byte := 0x02

/-- End of text (`00_scope.md` R11). -/
def ETX : Byte := 0x03

/-- The constant third byte of a frame (`00_scope.md` R11). -/
def FILL : Byte := 0xFF

/-- `XOR(B)`, 0x00 for the empty string (`00_scope.md` R9). -/
def xorBytes : Bytes → Byte
  | [] => 0
  | b :: B => b ^^^ xorBytes B

/-- `Checksum(B, a, b)` (`40_frame_codec.md` R100). -/
def checksum (B : Bytes) (a b : Nat) : Byte := xorBytes (slice B a b)

/-- `HexU(v)`, an uppercase hex digit (`40_frame_codec.md` R101). -/
def hexU (v : BitVec 4) : Byte :=
  if v.toNat ≤ 9 then BitVec.ofNat 8 (0x30 + v.toNat) else BitVec.ofNat 8 (0x41 + (v.toNat - 10))

/-- `HexPair(x)`, high nibble first (`40_frame_codec.md` R101). -/
def hexPair (x : Byte) : Bytes := [hexU (x.extractLsb' 4 4), hexU (x.extractLsb' 0 4)]

/-- Header and payload of a frame, the bytes its checksum covers (`30_encoding.md` R70, R72). -/
def frameCovered (P : Bytes) (rid : Byte) : Bytes :=
  [STX, rid, FILL, BitVec.ofNat 8 (P.length + 3)] ++ P

/-- The frame of a payload that fits (`30_encoding.md` R70, `40_frame_codec.md` R102). -/
def frameBytes (P : Bytes) (rid : Byte) : Bytes :=
  frameCovered P rid ++ hexPair (checksum (frameCovered P rid) 0 (4 + P.length)) ++ [ETX]

/-- `Encode(P, rid)`; a payload over 252 bytes is rejected (`40_frame_codec.md` R102, R103). -/
def frameEncode (P : Bytes) (rid : Byte) : Except FrameError Bytes :=
  if P.length > Config.maxPayload then .error .payloadTooLong else .ok (frameBytes P rid)

/-- The least index of `x` in `B`. -/
def firstIndex (x : Byte) : Bytes → Option Nat
  | [] => none
  | b :: B => if b = x then some 0 else (firstIndex x B).map (· + 1)

/-- The greatest index of `x` in `B`. -/
def lastIndex (x : Byte) : Bytes → Option Nat
  | [] => none
  | b :: B =>
    match lastIndex x B with
    | some i => some (i + 1)
    | none => if b = x then some 0 else none

/-- What Decode finds: the payload, the index of the ReaderId, the Length byte, the index of the last ETX
(`40_frame_codec.md` R104). -/
structure DecodedFrame where
  payload : Bytes
  h : Nat
  len : Nat
  e : Nat
deriving DecidableEq, Repr

/-- The index of the ReaderId after the first STX at `s`: one duplicated STX is skipped, and only one
(`40_frame_codec.md` R104, R106). -/
def readerIndex (B : Bytes) (s : Nat) : Nat := if B[s + 1]? = some STX then s + 2 else s + 1

/-- The Length checks of Decode, for the ReaderId at `h` and the last ETX at `e`, in their order (`40_frame_codec.md` R104,
R105). -/
def frameCheck (B : Bytes) (h e : Nat) : Except FrameError DecodedFrame :=
  let L := (B.getD (h + 2) 0).toNat
  if e ≤ h + 2 then .error .truncated
  else if L < 3 then .error .truncated
  else if h + L + 2 > e then .error .truncated
  else if h + L + 2 < e then .error .lengthMismatch
  else .ok { payload := slice B (h + 3) (h + L), h := h, len := L, e := e }

/-- `Decode(B)`, its errors in the order of `40_frame_codec.md` R104, R105. -/
def frameDecode (B : Bytes) : Except FrameError DecodedFrame :=
  match firstIndex STX B with
  | none => .error .missingStart
  | some s =>
    match lastIndex ETX (B.drop (s + 1)) with
    | none => .error .missingEnd
    | some k => frameCheck B (readerIndex B s) (s + 1 + k)

/-- `Validate(B)`: the two checksum bytes are the HexPair of the XOR from the STX just before the ReaderId through the
last payload byte (`40_frame_codec.md` R107). -/
def frameValidate (B : Bytes) : Bool :=
  match frameDecode B with
  | .error _ => false
  | .ok d => slice B (d.h + d.len) (d.h + d.len + 2) == hexPair (checksum B (d.h - 1) (d.h + d.len))

/-- The accepted payload of a span, or the one frame error it is dropped with (`40_frame_codec.md` R108, R109). -/
def frameAccept (B : Bytes) : Except FrameError Bytes :=
  match frameDecode B with
  | .error c => .error c
  | .ok d => if frameValidate B then .ok d.payload else .error .checksumMismatch

end Sys2Proof.Machine
end

