-- ==== Sys2Proof/Machine/Ops.lean ====
section
/-! DEFINITION. The shared operations: the list primitives (`20_memory.md` R52), the event port, the two inputs, how a
command ends (`41_dispatch.md` R141, `40_frame_codec.md` R117), the effect of a frame error (`60_exceptions.md` R224),
and the steps that are no instruction: RESET, LINK_RESET, INJECT, TX. The block takes no exceptions (R227), so there is
no exception entry and no return from one. -/

namespace Sys2Proof.Machine

/-! ### The event port and the acknowledgement output -/

/-- `emit E`: append to the event output (`00_scope.md` R10, `60_exceptions.md` R240). -/
def emit (e : Event) (s : State) : State := { s with evt := s.evt ++ [e] }

/-- Give one INJECT acknowledgement (`60_exceptions.md` R237). -/
def acknowledge (a : InjAck) (s : State) : State := { s with acks := s.acks ++ [a] }

/-! ### List primitives (`20_memory.md` R52) -/

/-- `RosterAppend(p)`. -/
def rosterAppend (p : Person) (s : State) : State := { s with persons := s.persons ++ [p] }

/-- `RosterRemoveAll(k)`: the rest keep their order. -/
def rosterRemoveAll (k : Bytes) (s : State) : State :=
  { s with persons := s.persons.filter (fun p => p.cardId != k) }

/-- `RosterClear()`. -/
def rosterClear (s : State) : State := { s with persons := [] }

/-- `RosterCount()`. -/
def rosterCount (s : State) : Nat := s.persons.length

/-- `LogAppend(a)`. -/
def logAppend (a : Attendance) (s : State) : State := { s with attLog := s.attLog ++ [a] }

/-- `LogLen()`. -/
def logLen (s : State) : Nat := s.attLog.length

/-- `LogAt(i)`; none outside its precondition `i < LogLen()`. -/
def logAt (i : Nat) (s : State) : Option Attendance := s.attLog[i]?

/-- `LogClear()`. -/
def logClear (s : State) : State := { s with attLog := [] }

/-- The pending record: `LogAt(S.read_cursor)` where `LogLen() > S.read_cursor` (`10_state.md` R25, `42_commands.md` R171). -/
def pendingRecord (s : State) : Option Attendance := logAt s.readCursor.toNat s

/-! ### Inputs that are drawn -/

/-- The value of `rnd` at the next draw (`10_state.md` R31; log 5). -/
def rndNow (s : State) : Bool := s.rndIn.headD (Config.rnd s.draws)

/-- `draw rnd`: the next use is a fresh draw (`10_state.md` R31; log 5). -/
def rndDrawn (s : State) : State := { s with rndIn := s.rndIn.tail, draws := s.draws + 1 }

/-- The value of `rtc` at the next sample (`10_state.md` R32; log 6). -/
def rtcNow (s : State) : DateTime := s.rtcIn.headD (Config.rtc s.samples)

/-- `sample rtc`: the next use is a fresh sample (`10_state.md` R32; log 6). -/
def rtcSampled (s : State) : State := { s with rtcIn := s.rtcIn.tail, samples := s.samples + 1 }

/-! ### How a command ends -/

/-- `respond P`: the response is framed with `rid_reg` and loaded whole; a payload Encode rejects gives no response and
the PAYLOAD_TOO_LONG event (`41_dispatch.md` R141, `40_frame_codec.md` R117, `60_exceptions.md` R238). -/
def respond (P : Bytes) (s : State) : State :=
  match frameEncode P s.ridReg with
  | .ok f => { s with txQ := f, rxSt := .txb }
  | .error c => { emit (.frameError c) s with rxSt := .hunt }

/-- `noresp`: no response, and the framer hunts for the next span (`41_dispatch.md` R141, `40_frame_codec.md` R117). -/
def noresp (s : State) : State := { s with rxSt := .hunt }

/-- `LogClear()` and `S.read_cursor <- 0` together (`20_memory.md` R64, `42_commands.md` R199). -/
def resetLog (s : State) : State := { logClear s with readCursor := 0 }

/-- EV_RECEIVED, where request logging is on (`41_dispatch.md` R142). -/
def logReceived (id : Byte) (prm : Bytes) (s : State) : State :=
  if s.rlogEn then emit (.received id prm) s else s

/-! ### Errors -/

/-- The effect of a frame error: the span is gone, the framer hunts, one event, nothing else (`60_exceptions.md` R224). -/
def frameError (c : FrameError) (s : State) : State :=
  { emit (.frameError c) s with rxSt := .hunt, rxBuf := [], rxRem := 0 }

/-! ### Steps that are no instruction -/

/-- LINK_RESET (`60_exceptions.md` R236); what stands on the inputs is the environment's and stays (log 18). -/
def linkReset (s : State) : State := { s with rxSt := .hunt, rxBuf := [], rxRem := 0, txQ := [] }

/-- TX: one byte of the response leaves; after the last the framer hunts; not enabled on an empty queue
(`40_frame_codec.md` R119; log 3). -/
def txByte (s : State) : State :=
  match s.txQ with
  | [] => s
  | b :: q => { s with txQ := q, txOut := s.txOut ++ [b], rxSt := if q = [] then .hunt else s.rxSt }

/-- INJECT (`10_state.md` R33). -/
def injectRecord (ts : DateTime) (cid : Bytes) (s : State) : State :=
  if !injectable ts cid then acknowledge .bad s
  else if logLen s = Config.maxLog then acknowledge .full s
  else acknowledge .ok (logAppend { ts := ts, cardId := cid } s)

/-- The coercion events of a RESET, work type first (`60_exceptions.md` R241, `70_reset_and_hazards.md` R251). -/
def coercionEvents (cfg : ConfigInputs) : List Event :=
  (if (workTypeInput cfg.workType).isNone then [.configCoerced .workType cfg.workType] else [])
    ++ (if (protocolModeInput cfg.protocolMode).isNone then [.configCoerced .protocolMode cfg.protocolMode] else [])

/-- RESET: every field of `10_state.md` R22 is loaded (`70_reset_and_hazards.md` R250, R251). The ports are the
environment's and stay (logs 8, 18). -/
def resetBlock (cfg : ConfigInputs) (s : State) : State :=
  { s with
    persons := []
    attLog := []
    readCursor := 0
    workType := (workTypeInput cfg.workType).getD .onOff
    protocolMode := (protocolModeInput cfg.protocolMode).getD .client
    ridReg := cfg.readerId
    rndEn := cfg.randomReads
    rlogEn := cfg.requestLogging
    rxSt := .hunt
    rxBuf := []
    rxRem := 0
    txQ := []
    live := true
    evt := s.evt ++ coercionEvents cfg }

end Sys2Proof.Machine
end

