-- ==== Sys2Proof/Machine/Log.lean ====
section
/-! DEFINITION. The attendance-log commands: ACK_LOG, LOG_STATUS, CLEAR_LOG (`42_commands.md` R196, R198, R199). -/

namespace Sys2Proof.Machine

/-- ACK_LOG: the cursor advances while a record is pending; never a response (`42_commands.md` R196). -/
def execAckLog (_prm : Bytes) (s : State) : Host.Outcome State Fault Refusal :=
  .next (noresp (if logLen s > s.readCursor.toNat then { s with readCursor := s.readCursor + 1 } else s))

/-- LOG_STATUS (`42_commands.md` R198). -/
def execLogStatus (_prm : Bytes) (s : State) : Host.Outcome State Fault Refusal :=
  .next (respond (count10x2Payload (logLen s) s.readCursor.toNat) s)

/-- CLEAR_LOG: log and cursor together, on "DEL" only (`42_commands.md` R199). -/
def execClearLog (prm : Bytes) (s : State) : Host.Outcome State Fault Refusal :=
  .next (if isDel prm then respond OK (resetLog s) else respond ERR s)

end Sys2Proof.Machine
end

