-- ==== Sys2Proof/Machine/Mifare.lean ====
section
/-! DEFINITION. The unsupported smart-card commands: fixed answers, no state (`42_commands.md` R179 to R188,
`60_exceptions.md` R223). -/

namespace Sys2Proof.Machine

/-- MIFARE_52, the only one that does not answer ERR (`42_commands.md` R179). -/
def execMifare52 (_prm : Bytes) (s : State) : Host.Outcome State Fault Refusal :=
  .next (respond EMPTY_CARD s)

/-- MIFARE_54 (`42_commands.md` R180). -/
def execMifare54 (_prm : Bytes) (s : State) : Host.Outcome State Fault Refusal :=
  .next (respond ERR s)

/-- MIFARE_55 (`42_commands.md` R181). -/
def execMifare55 (_prm : Bytes) (s : State) : Host.Outcome State Fault Refusal :=
  .next (respond ERR s)

/-- MIFARE_56 (`42_commands.md` R182). -/
def execMifare56 (_prm : Bytes) (s : State) : Host.Outcome State Fault Refusal :=
  .next (respond ERR s)

/-- MIFARE_58 (`42_commands.md` R183). -/
def execMifare58 (_prm : Bytes) (s : State) : Host.Outcome State Fault Refusal :=
  .next (respond ERR s)

/-- MIFARE_59 (`42_commands.md` R184). -/
def execMifare59 (_prm : Bytes) (s : State) : Host.Outcome State Fault Refusal :=
  .next (respond ERR s)

/-- MIFARE_62 (`42_commands.md` R185). -/
def execMifare62 (_prm : Bytes) (s : State) : Host.Outcome State Fault Refusal :=
  .next (respond ERR s)

/-- MIFARE_63 (`42_commands.md` R186). -/
def execMifare63 (_prm : Bytes) (s : State) : Host.Outcome State Fault Refusal :=
  .next (respond ERR s)

/-- MIFARE_70 (`42_commands.md` R187). -/
def execMifare70 (_prm : Bytes) (s : State) : Host.Outcome State Fault Refusal :=
  .next (respond ERR s)

/-- MIFARE_71 (`42_commands.md` R188). -/
def execMifare71 (_prm : Bytes) (s : State) : Host.Outcome State Fault Refusal :=
  .next (respond ERR s)

end Sys2Proof.Machine
end

