-- ==== Sys2Proof/Machine/Mode.lean ====
section
/-! DEFINITION. The mode commands: SET_WORK_TYPE, SET_PROTOCOL_MODE (`42_commands.md` R175, R195). -/

namespace Sys2Proof.Machine

/-- SET_WORK_TYPE (`42_commands.md` R175). -/
def execSetWorkType (prm : Bytes) (s : State) : Host.Outcome State Fault Refusal :=
  .next (match workTypeParam prm with
    | some w => respond OK { s with workType := w }
    | none => respond ERR s)

/-- SET_PROTOCOL_MODE (`42_commands.md` R195). -/
def execSetProtocolMode (prm : Bytes) (s : State) : Host.Outcome State Fault Refusal :=
  .next (match protocolModeParam prm with
    | some m => respond OK { s with protocolMode := m }
    | none => respond ERR s)

end Sys2Proof.Machine
end

