-- ==== Sys2Proof/Machine/Poll.lean ====
section
/-! DEFINITION. The polling commands: PING, READ_CARD, ACCESS_EVENT (`42_commands.md` R170 to R172). -/

namespace Sys2Proof.Machine

/-- PING (`42_commands.md` R170). -/
def execPing (_prm : Bytes) (s : State) : Host.Outcome State Fault Refusal :=
  .next (respond OK s)

/-- READ_CARD: the tests run in this order; the cursor is not advanced (`42_commands.md` R171). -/
def execReadCard (_prm : Bytes) (s : State) : Host.Outcome State Fault Refusal :=
  .next (match pendingRecord s with
    | some a => respond (entryPayload a) s
    | none =>
      if s.workType = .offline then respond EMPTY_CARD s
      else if s.rndEn then respond (if rndNow s then FILLED_CARD else EMPTY_CARD) (rndDrawn s)
      else respond EMPTY_CARD s)

/-- ACCESS_EVENT: `'+'` and `'-'` emit one event each, anything else is a parameter error (`42_commands.md` R172). -/
def execAccessEvent (prm : Bytes) (s : State) : Host.Outcome State Fault Refusal :=
  .next (
    if prm.head? = some 0x2B then respond OK (emit (accessGrantedEvent prm) s)
    else if prm.head? = some 0x2D then respond OK (emit .accessDenied s)
    else respond PERR s)

end Sys2Proof.Machine
end

