-- ==== Sys2Proof/Machine/Roster.lean ====
section
/-! DEFINITION. The roster commands: ADD_PERSON, CLEAR_PERSONS, DEL_PERSON, PERSON_COUNT (`42_commands.md` R176 to R178,
R197). -/

namespace Sys2Proof.Machine

/-- ADD_PERSON: short params, an unparseable date and a full roster answer ERR (`42_commands.md` R176). -/
def execAddPerson (prm : Bytes) (s : State) : Host.Outcome State Fault Refusal :=
  .next (match personParam prm with
    | none => respond ERR s
    | some p => if rosterCount s = Config.maxPersons then respond ERR s else respond OK (rosterAppend p s))

/-- CLEAR_PERSONS (`42_commands.md` R177). -/
def execClearPersons (_prm : Bytes) (s : State) : Host.Outcome State Fault Refusal :=
  .next (respond OK (rosterClear s))

/-- DEL_PERSON: OK also when nothing matches (`42_commands.md` R178). -/
def execDelPerson (prm : Bytes) (s : State) : Host.Outcome State Fault Refusal :=
  .next (respond OK (rosterRemoveAll prm s))

/-- PERSON_COUNT (`42_commands.md` R197). -/
def execPersonCount (_prm : Bytes) (s : State) : Host.Outcome State Fault Refusal :=
  .next (respond (count5Payload (rosterCount s)) s)

end Sys2Proof.Machine
end

