-- ==== Sys2Proof/Machine/Time.lean ====
section
/-! DEFINITION. The time commands: CHECK_TIME, GET_TIME (`42_commands.md` R173, R174). -/

namespace Sys2Proof.Machine

/-- CHECK_TIME: compares, sets no clock (`42_commands.md` R173). -/
def execCheckTime (prm : Bytes) (s : State) : Host.Outcome State Fault Refusal :=
  .next (respond (if timeAgrees prm then OK else ERR) s)

/-- GET_TIME: `rtc` is sampled once (`42_commands.md` R174). -/
def execGetTime (_prm : Bytes) (s : State) : Host.Outcome State Fault Refusal :=
  .next (respond (timePayload (rtcNow s)) (rtcSampled s))

end Sys2Proof.Machine
end

