-- ==== Sys2Proof/Machine/Dispatch.lean ====
section
/-! DEFINITION. `Exec(id, prm)` of `41_dispatch.md` R140: one arm per instruction. -/

namespace Sys2Proof.Machine

def exec (i : Instr) (s : State) : Host.Outcome State Fault Refusal :=
  match i with
  | .ping prm => Sys2Proof.Machine.execPing prm s
  | .readCard prm => Sys2Proof.Machine.execReadCard prm s
  | .accessEvent prm => Sys2Proof.Machine.execAccessEvent prm s
  | .checkTime prm => Sys2Proof.Machine.execCheckTime prm s
  | .getTime prm => Sys2Proof.Machine.execGetTime prm s
  | .setWorkType prm => Sys2Proof.Machine.execSetWorkType prm s
  | .addPerson prm => Sys2Proof.Machine.execAddPerson prm s
  | .clearPersons prm => Sys2Proof.Machine.execClearPersons prm s
  | .delPerson prm => Sys2Proof.Machine.execDelPerson prm s
  | .mifare52 prm => Sys2Proof.Machine.execMifare52 prm s
  | .mifare54 prm => Sys2Proof.Machine.execMifare54 prm s
  | .mifare55 prm => Sys2Proof.Machine.execMifare55 prm s
  | .mifare56 prm => Sys2Proof.Machine.execMifare56 prm s
  | .mifare58 prm => Sys2Proof.Machine.execMifare58 prm s
  | .mifare59 prm => Sys2Proof.Machine.execMifare59 prm s
  | .mifare62 prm => Sys2Proof.Machine.execMifare62 prm s
  | .mifare63 prm => Sys2Proof.Machine.execMifare63 prm s
  | .mifare70 prm => Sys2Proof.Machine.execMifare70 prm s
  | .mifare71 prm => Sys2Proof.Machine.execMifare71 prm s
  | .setProtocolMode prm => Sys2Proof.Machine.execSetProtocolMode prm s
  | .ackLog prm => Sys2Proof.Machine.execAckLog prm s
  | .personCount prm => Sys2Proof.Machine.execPersonCount prm s
  | .logStatus prm => Sys2Proof.Machine.execLogStatus prm s
  | .clearLog prm => Sys2Proof.Machine.execClearLog prm s

end Sys2Proof.Machine
end

