-- ==== Sys2Proof/Machine/Framer.lean ====
section
/-! DEFINITION. How an instruction is fetched and run: Dispatch (`41_dispatch.md` R140), COMPLETE and the receive framer
(`40_frame_codec.md` R110 to R118), and the choice among the steps. -/

namespace Sys2Proof.Machine

/-- `Dispatch(P)`: the empty payload is not dispatched (`30_encoding.md` R90); an unassigned id is logged and gives no
response (`42_commands.md` R189); an assigned one is logged and runs (`41_dispatch.md` R140). -/
def dispatch (P : Bytes) (s : State) : Host.Outcome State Fault Refusal :=
  match decode P with
  | .error .emptyPayload => .next (noresp s)
  | .error (.unassigned id prm) => .next (noresp (logReceived id prm s))
  | .ok i => exec i (logReceived i.commandId i.params s)

/-- COMPLETE: the span is taken out of the buffer, accepted and dispatched, or dropped with its frame error
(`40_frame_codec.md` R117). -/
def complete (s : State) : Host.Outcome State Fault Refusal :=
  match frameAccept s.rxBuf with
  | .error c => .next (frameError c { s with rxBuf := [], rxRem := 0 })
  | .ok P => dispatch P { s with rxBuf := [], rxRem := 0 }

/-- RX of one byte, by framer state (`40_frame_codec.md` R112 to R116). In TXB no byte is taken (R118). -/
def rxByte (b : Byte) (s : State) : Host.Outcome State Fault Refusal :=
  match s.rxSt with
  | .hunt => .next (if b = STX then { s with rxBuf := [b], rxSt := .stx1 } else s)
  | .stx1 => .next { s with rxBuf := s.rxBuf ++ [b], rxSt := if b = STX then .rid else .ffb }
  | .rid => .next { s with rxBuf := s.rxBuf ++ [b], rxSt := .ffb }
  | .ffb => .next { s with rxBuf := s.rxBuf ++ [b], rxSt := .len }
  | .len =>
    if b = 0 then complete { s with rxBuf := s.rxBuf ++ [b] }
    else .next { s with rxBuf := s.rxBuf ++ [b], rxRem := b, rxSt := .body }
  | .body =>
    if s.rxRem - 1 = 0 then complete { s with rxBuf := s.rxBuf ++ [b], rxRem := s.rxRem - 1 }
    else .next { s with rxBuf := s.rxBuf ++ [b], rxRem := s.rxRem - 1 }
  | .txb => .next s

/-- An RX pick: the first held byte is taken if the block is ready for one; else it stays held (`40_frame_codec.md`
R118, `70_reset_and_hazards.md` R254 item 3; logs 2, 3). -/
def rxPick (s : State) : Host.Outcome State Fault Refusal :=
  if rxReady s then
    match s.rxIn with
    | [] => .next s
    | b :: held => rxByte b { s with rxIn := held }
  else .next s

/-- One step of the environment's choosing. Before the first RESET only RESET is enabled (`10_state.md` R39; log 4). -/
def runChoice (c : Choice) (s : State) : Host.Outcome State Fault Refusal :=
  match c with
  | .reset cfg => .next (resetBlock cfg s)
  | .rx => if s.live then rxPick s else .fault .beforeReset
  | .tx => if s.live then .next (txByte s) else .fault .beforeReset
  | .linkReset => if s.live then .next (linkReset s) else .fault .beforeReset
  | .inject ts cid => if s.live then .next (injectRecord ts cid s) else .fault .beforeReset

/-- The next step: the environment's next pick, or idle with all state kept when there is none (`60_exceptions.md` R235;
logs 1, 3, 4). -/
def runNext (s : State) : Host.Outcome State Fault Refusal :=
  match s.sched with
  | [] => if s.live then .next s else .fault .beforeReset
  | c :: later => runChoice c { s with sched := later }

/-- The reader id of the frames `State.withFetchWord` builds; no inbound frame's reader id is checked
(`30_encoding.md` R76), and this one is not 0x02 (`70_reset_and_hazards.md` R258; log 12). -/
def fetchReaderId : Byte := 150

/-- The block one RX pick before the end of a frame that carries `P`: all but its last byte is in the buffer, and its
ETX is the next inbound byte (`40_frame_codec.md` R116, R117; log 12). -/
def withFrame (P : Bytes) (s : State) : State :=
  { s with
    live := true
    rxSt := .body
    rxBuf := frameCovered P fetchReaderId ++ hexPair (checksum (frameCovered P fetchReaderId) 0 (4 + P.length))
    rxRem := 1
    txQ := []
    rxIn := ETX :: s.rxIn
    sched := .rx :: s.sched }

end Sys2Proof.Machine
end

