-- ==== Sys2Proof/Machine/Step.lean ====
section
/-! DEFINITION. One step of the machine, and how a given instruction is placed where the next step runs it. -/

namespace Sys2Proof.Machine

/-- One atomic step (`00_scope.md` R6, `20_memory.md` R56). -/
def step (s : State) : Host.Outcome State Fault Refusal := runNext s

/-- `s` with a frame that carries the instruction's payload all but received, and RX picked next (log 12). -/
def State.withFetchWord (s : State) (nbits w : Nat) : State := withFrame (payloadOfWord nbits w) s

end Sys2Proof.Machine
end

