-- ==== Sys2Proof/Safety.lean ====
section
/-! DEFINITION. The vocabulary of the statements: what a good state is (`10_state.md` R38 and what it rests on), and what
a step may leave alone. -/

namespace Sys2Proof.Machine

/-- A person as `10_state.md` R23 describes it. -/
def personOk (p : Person) : Bool :=
  decide (p.cardId.length = 8 ∧ p.table.length = 2 ∧ p.name.length ≤ 235)
    && validDate p.validUntil.day p.validUntil.month p.validUntil.year
    && decide (2000 ≤ p.validUntil.year ∧ p.validUntil.year ≤ 2099)

/-- An attendance record as `10_state.md` R24 describes it. -/
def attendanceOk (a : Attendance) : Bool := injectable a.ts a.cardId

/-- Where the ReaderId of an open span stands: after a duplicated STX, if there is one (`40_frame_codec.md` R113). -/
def ridIndex (B : Bytes) : Nat := if B[1]? = some STX then 2 else 1

/-- The buffer holds exactly what the framer state says of it (`40_frame_codec.md` R111 to R116). -/
def SpanFits (s : State) : Prop :=
  match s.rxSt with
  | .hunt => s.rxBuf = []
  | .txb => s.rxBuf = []
  | .stx1 => s.rxBuf = [STX]
  | .rid => s.rxBuf = [STX, STX]
  | .ffb => s.rxBuf[0]? = some STX ∧ s.rxBuf.length = ridIndex s.rxBuf + 1
  | .len => s.rxBuf[0]? = some STX ∧ s.rxBuf.length = ridIndex s.rxBuf + 2
  | .body => s.rxBuf[0]? = some STX ∧ ridIndex s.rxBuf + 3 ≤ s.rxBuf.length ∧ 1 ≤ s.rxRem.toNat ∧
      s.rxBuf.length + s.rxRem.toNat = ridIndex s.rxBuf + 3 + (s.rxBuf.getD (ridIndex s.rxBuf + 2) 0).toNat

/-- The invariant of the block: what `10_state.md` R38 lists, the entries of the two lists as R23 and R24 describe them,
and what the open span is, which R38 rests on. -/
structure BlockInv (s : State) : Prop where
  cursor_le_log : s.readCursor.toNat ≤ s.attLog.length
  log_le_max : s.attLog.length ≤ Config.maxLog
  persons_le_max : s.persons.length ≤ Config.maxPersons
  persons_ok : ∀ p ∈ s.persons, personOk p = true
  log_ok : ∀ a ∈ s.attLog, attendanceOk a = true
  span_fits : SpanFits s
  rem_zero : s.rxSt ≠ .body → s.rxRem = 0
  txb_iff : s.rxSt = .txb ↔ s.txQ ≠ []
  txq_le : s.txQ.length ≤ 259

/-- The seven points of `10_state.md` R38, in its order. -/
structure SpecInvariant (s : State) : Prop where
  counts : s.readCursor.toNat ≤ s.attLog.length ∧ s.attLog.length ≤ Config.maxLog ∧
    s.persons.length ≤ Config.maxPersons
  modes : (workTypeBits s.workType).toNat ∈ [1, 2, 3] ∧ (protocolModeBits s.protocolMode).toNat ∈ [0, 1]
  hunt_empty : s.rxSt = .hunt → s.rxBuf = []
  open_starts : s.rxSt ∈ [RxState.stx1, .rid, .ffb, .len, .body] → s.rxBuf[0]? = some STX
  body_rem : s.rxSt = .body → 1 ≤ s.rxRem.toNat ∧ s.rxRem.toNat ≤ 255
  txb_iff : (s.rxSt = .txb ↔ s.txQ ≠ []) ∧ (s.rxSt = .txb → s.rxBuf = [])
  sizes : s.rxBuf.length ≤ 260 ∧ s.txQ.length ≤ 259

/-- The device state is unchanged (`10_state.md` R20: persons, attendanceLog, readCursor, workType, protocolMode). -/
structure SameDevice (s t : State) : Prop where
  persons : t.persons = s.persons
  attLog : t.attLog = s.attLog
  readCursor : t.readCursor = s.readCursor
  workType : t.workType = s.workType
  protocolMode : t.protocolMode = s.protocolMode

/-- The configuration latches are unchanged (`10_state.md` R28). -/
structure SameLatches (s t : State) : Prop where
  ridReg : t.ridReg = s.ridReg
  rndEn : t.rndEn = s.rndEn
  rlogEn : t.rlogEn = s.rlogEn

/-- `s` with the response frame of `P` loaded whole, and nothing else changed (`40_frame_codec.md` R117). -/
def answered (P : Bytes) (s : State) : State :=
  { s with txQ := frameBytes P s.ridReg, rxSt := .txb }

/-- The two states are the same but for what no command reads: a person's table, date and name (`10_state.md` R23) and
the protocol mode (R29). -/
def SameVisible (s t : State) : Prop :=
  t.persons.map Person.cardId = s.persons.map Person.cardId ∧
    { t with persons := [], protocolMode := .client } = { s with persons := [], protocolMode := .client }

/-- The day after a valid date, in the calendar of `41_dispatch.md` R148. -/
def nextDay (d : Date) : Date :=
  if d.day < daysIn d.month d.year then { d with day := d.day + 1 }
  else if d.month < 12 then { d with day := 1, month := d.month + 1 }
  else { day := 1, month := 1, year := d.year + 1 }

end Sys2Proof.Machine
end

