-- ==== Sys2Proof/Certificates/Slice0/Obligations.lean ====
section
/-! DEFINITION. The statements for the provers. Each names the rules of spec/ it rests on; the words of
`OBLIGATIONS.json` say the same in prose. -/

open Sys2Proof Sys2Proof.Machine

/-- PING answers OK whatever its params, and changes nothing else. Formalises R170. -/
def Obligations.PingAnswersOk : Prop :=
  ∀ (prm : Bytes) (s : State),
    decode (0x0A :: prm) = .ok (.ping prm) ∧ exec (.ping prm) s = .next (answered [0x6F] s)

/-- READ_CARD answers the pending record, or by work type, random reads and the draw. Formalises R171. How a draw is
listed and counted (`rndIn`, `draws`) is the model's form (log 5). -/
def Obligations.ReadCardAnswersByCase : Prop :=
  ∀ (prm : Bytes) (s : State),
    decode (0x0B :: prm) = .ok (.readCard prm) ∧
    (∀ a, s.attLog[s.readCursor.toNat]? = some a → attendanceOk a = true →
      exec (.readCard prm) s = .next (answered ([0x64, 0x30, 0x30] ++ stamp a.ts ++ a.cardId ++
        [0x30, 0x31, 0x30, 0x31, 0x30, 0x30, 0x30, 0x30, 0x30, 0x31]) s)) ∧
    (s.attLog.length ≤ s.readCursor.toNat → s.workType = .offline →
      exec (.readCard prm) s = .next (answered [0x61, 0x30, 0x30] s)) ∧
    (s.attLog.length ≤ s.readCursor.toNat → s.workType ≠ .offline → s.rndEn = true →
      exec (.readCard prm) s = .next (answered
        (if rndNow s then [0x62, 0x30, 0x30, 0x44, 0x33, 0x32, 0x45, 0x46, 0x34, 0x43, 0x46] else [0x61, 0x30, 0x30])
        { s with rndIn := s.rndIn.tail, draws := s.draws + 1 })) ∧
    (s.attLog.length ≤ s.readCursor.toNat → s.workType ≠ .offline → s.rndEn = false →
      exec (.readCard prm) s = .next (answered [0x61, 0x30, 0x30] s))

/-- A payload over 252 bytes is rejected: no response, one PAYLOAD_TOO_LONG event. Rests on R103, R238. -/
def Obligations.OverlongPayloadGivesNoResponse : Prop :=
  (∀ (P : Bytes) (rid : Byte), 252 < P.length → frameEncode P rid = .error .payloadTooLong) ∧
    ∀ (prm : Bytes) (s : State) (a : Attendance), s.attLog[s.readCursor.toNat]? = some a →
      225 < a.cardId.length → exec (.readCard prm) s =
        .next { s with rxSt := .hunt, evt := s.evt ++ [.frameError .payloadTooLong] }

/-- ACCESS_EVENT emits one granted or denied event and answers OK, or PERR. Formalises R172. -/
def Obligations.AccessEventAnswersBySign : Prop :=
  ∀ (prm : Bytes) (s : State),
    decode (0x11 :: prm) = .ok (.accessEvent prm) ∧
    (∀ t d, prm.head? = some 0x2B → parseHms prm 1 = some t → parseDmy4 prm 7 = some d →
      exec (.accessEvent prm) s = .next (answered [0x6F] { s with evt := s.evt ++
        [.accessGranted (some ⟨d.year, d.month, d.day, t.hour, t.minute, t.second⟩) (prm.drop 15)] })) ∧
    (prm.head? = some 0x2B → parseHms prm 1 = none ∨ parseDmy4 prm 7 = none →
      exec (.accessEvent prm) s = .next (answered [0x6F] { s with evt := s.evt ++ [.accessGranted none []] })) ∧
    (prm.head? = some 0x2D →
      exec (.accessEvent prm) s = .next (answered [0x6F] { s with evt := s.evt ++ [.accessDenied] })) ∧
    (prm.head? ≠ some 0x2B → prm.head? ≠ some 0x2D →
      exec (.accessEvent prm) s = .next (answered [0x6E] s))

/-- CHECK_TIME answers OK exactly when 14 bytes parse and the weekday digit agrees. Formalises R173. -/
def Obligations.CheckTimeComparesWeekday : Prop :=
  ∀ (prm : Bytes) (s : State),
    decode (0x15 :: prm) = .ok (.checkTime prm) ∧
    (∀ t d, prm.length = 14 → parseHms prm 0 = some t → parseDmy2 prm 8 = some d →
      prm[7]? = some (BitVec.ofNat 8 (0x30 + isoWeekday d.year d.month d.day)) →
      exec (.checkTime prm) s = .next (answered [0x6F] s)) ∧
    ((prm.length ≠ 14 ∨ parseHms prm 0 = none ∨ parseDmy2 prm 8 = none ∨
        ∃ d, parseDmy2 prm 8 = some d ∧
          prm[7]? ≠ some (BitVec.ofNat 8 (0x30 + isoWeekday d.year d.month d.day))) →
      exec (.checkTime prm) s = .next (answered [0x68] s))

/-- GET_TIME samples the clock once and answers 'c' and its 14-byte stamp. Formalises R174. How a sample is listed and
counted (`rtcIn`, `samples`) is the model's form (log 6). -/
def Obligations.GetTimeAnswersSampledClock : Prop :=
  ∀ (prm : Bytes) (s : State),
    decode (0x16 :: prm) = .ok (.getTime prm) ∧
    (validDateTime (rtcNow s) = true →
      (stamp (rtcNow s)).length = 14 ∧
      exec (.getTime prm) s = .next (answered (0x63 :: stamp (rtcNow s))
        { s with rtcIn := s.rtcIn.tail, samples := s.samples + 1 }))

/-- SET_WORK_TYPE stores 1, 2 or 3 and answers OK, and answers ERR to anything else. Formalises R175. -/
def Obligations.SetWorkTypeStoresOneDigit : Prop :=
  ∀ (s : State),
    (∀ prm, decode (0x18 :: prm) = .ok (.setWorkType prm)) ∧
    exec (.setWorkType [0x31]) s = .next (answered [0x6F] { s with workType := .online }) ∧
    exec (.setWorkType [0x32]) s = .next (answered [0x6F] { s with workType := .offline }) ∧
    exec (.setWorkType [0x33]) s = .next (answered [0x6F] { s with workType := .onOff }) ∧
    ∀ prm, prm ≠ [0x31] → prm ≠ [0x32] → prm ≠ [0x33] →
      exec (.setWorkType prm) s = .next (answered [0x68] s)

/-- ADD_PERSON appends one person, or answers ERR to short params, a bad date or a full roster. Formalises R176. -/
def Obligations.AddPersonAppendsOrErrs : Prop :=
  ∀ (prm : Bytes) (s : State),
    decode (0x1F :: prm) = .ok (.addPerson prm) ∧
    (prm.length < 16 → exec (.addPerson prm) s = .next (answered [0x68] s)) ∧
    (16 ≤ prm.length → parseDmy2 prm 10 = none → exec (.addPerson prm) s = .next (answered [0x68] s)) ∧
    (∀ d, 16 ≤ prm.length → parseDmy2 prm 10 = some d → s.persons.length = Config.maxPersons →
      exec (.addPerson prm) s = .next (answered [0x68] s)) ∧
    (∀ d, 16 ≤ prm.length → parseDmy2 prm 10 = some d → s.persons.length ≠ Config.maxPersons →
      exec (.addPerson prm) s = .next (answered [0x6F] { s with persons := s.persons ++
        [{ cardId := slice prm 0 8, table := slice prm 8 10, validUntil := d, name := prm.drop 16 }] }))

/-- CLEAR_PERSONS empties the roster; DEL_PERSON removes every entry with that card id; both answer OK. Formalises R177,
R178. -/
def Obligations.ClearAndDelPersonRemove : Prop :=
  ∀ (prm : Bytes) (s : State),
    decode (0x20 :: prm) = .ok (.clearPersons prm) ∧ decode (0x21 :: prm) = .ok (.delPerson prm) ∧
    exec (.clearPersons prm) s = .next (answered [0x6F] { s with persons := [] }) ∧
    exec (.delPerson prm) s =
      .next (answered [0x6F] { s with persons := s.persons.filter (fun p => decide (p.cardId ≠ prm)) })

/-- The ten Mifare ids answer fixed responses and change nothing: a00 for 52, ERR for the rest. Formalises R179, R180,
R181, R182, R183, R184, R185, R186, R187, R188. -/
def Obligations.MifareIdsAnswerFixed : Prop :=
  ∀ (prm : Bytes) (s : State),
    (decode (0x34 :: prm) = .ok (.mifare52 prm) ∧ exec (.mifare52 prm) s = .next (answered [0x61, 0x30, 0x30] s)) ∧
    (decode (0x36 :: prm) = .ok (.mifare54 prm) ∧ exec (.mifare54 prm) s = .next (answered [0x68] s)) ∧
    (decode (0x37 :: prm) = .ok (.mifare55 prm) ∧ exec (.mifare55 prm) s = .next (answered [0x68] s)) ∧
    (decode (0x38 :: prm) = .ok (.mifare56 prm) ∧ exec (.mifare56 prm) s = .next (answered [0x68] s)) ∧
    (decode (0x3A :: prm) = .ok (.mifare58 prm) ∧ exec (.mifare58 prm) s = .next (answered [0x68] s)) ∧
    (decode (0x3B :: prm) = .ok (.mifare59 prm) ∧ exec (.mifare59 prm) s = .next (answered [0x68] s)) ∧
    (decode (0x3E :: prm) = .ok (.mifare62 prm) ∧ exec (.mifare62 prm) s = .next (answered [0x68] s)) ∧
    (decode (0x3F :: prm) = .ok (.mifare63 prm) ∧ exec (.mifare63 prm) s = .next (answered [0x68] s)) ∧
    (decode (0x46 :: prm) = .ok (.mifare70 prm) ∧ exec (.mifare70 prm) s = .next (answered [0x68] s)) ∧
    (decode (0x47 :: prm) = .ok (.mifare71 prm) ∧ exec (.mifare71 prm) s = .next (answered [0x68] s))

/-- SET_PROTOCOL_MODE stores 0 or 1 and answers OK, and answers ERR to anything else. Formalises R195. -/
def Obligations.SetProtocolModeStoresOneDigit : Prop :=
  ∀ (s : State),
    (∀ prm, decode (0x65 :: prm) = .ok (.setProtocolMode prm)) ∧
    exec (.setProtocolMode [0x30]) s = .next (answered [0x6F] { s with protocolMode := .client }) ∧
    exec (.setProtocolMode [0x31]) s = .next (answered [0x6F] { s with protocolMode := .server }) ∧
    ∀ prm, prm ≠ [0x30] → prm ≠ [0x31] → exec (.setProtocolMode prm) s = .next (answered [0x68] s)

/-- ACK_LOG advances the cursor by one while a record is pending, and never responds. Formalises R196. -/
def Obligations.AckLogAdvancesWhilePending : Prop :=
  ∀ (prm : Bytes) (s : State),
    decode (0x6F :: prm) = .ok (.ackLog prm) ∧
    (s.readCursor.toNat < s.attLog.length →
      exec (.ackLog prm) s = .next { s with readCursor := s.readCursor + 1, rxSt := .hunt }) ∧
    (s.readCursor.toNat < s.attLog.length → s.attLog.length ≤ 4294967295 →
      (s.readCursor + 1).toNat = s.readCursor.toNat + 1) ∧
    (s.attLog.length ≤ s.readCursor.toNat → exec (.ackLog prm) s = .next { s with rxSt := .hunt })

/-- PERSON_COUNT answers 'z' and the roster's size in five decimal digits. Formalises R197. -/
def Obligations.PersonCountAnswersFiveDigits : Prop :=
  ∀ (prm : Bytes) (s : State),
    decode (0xF8 :: prm) = .ok (.personCount prm) ∧
    (s.persons.length ≤ 99999 → ∃ ds : Bytes, ds.length = 5 ∧ num? ds 0 5 = some s.persons.length ∧
      exec (.personCount prm) s = .next (answered (0x7A :: ds) s))

/-- LOG_STATUS answers 'z', the log length and the cursor in ten decimal digits each. Formalises R198. -/
def Obligations.LogStatusAnswersLengthAndCursor : Prop :=
  ∀ (prm : Bytes) (s : State),
    decode (0xF9 :: prm) = .ok (.logStatus prm) ∧
    (s.attLog.length ≤ 4294967295 → ∃ ls cs : Bytes, ls.length = 10 ∧ cs.length = 10 ∧
      num? ls 0 10 = some s.attLog.length ∧ num? cs 0 10 = some s.readCursor.toNat ∧
      exec (.logStatus prm) s = .next (answered (0x7A :: (ls ++ cs)) s)) ∧
    (BlockInv s → s.readCursor.toNat ≤ s.attLog.length)

/-- CLEAR_LOG empties the log and zeroes the cursor on exactly "DEL", and answers ERR otherwise. Formalises R199. -/
def Obligations.ClearLogOnExactDel : Prop :=
  ∀ (s : State),
    (∀ prm, decode (0xFA :: prm) = .ok (.clearLog prm)) ∧
    exec (.clearLog [0x44, 0x45, 0x4C]) s = .next (answered [0x6F] { s with attLog := [], readCursor := 0 }) ∧
    ∀ prm, prm ≠ [0x44, 0x45, 0x4C] → exec (.clearLog prm) s = .next (answered [0x68] s)

/-- Every instruction answers a next state in every state. Rests on R141, R220. -/
def Obligations.EveryCommandCompletes : Prop :=
  ∀ (i : Instr) (s : State), ∃ t, exec i s = .next t

/-- What no command changes: latches, buffers, ports; events are only added. Rests on R28, R56, R145. -/
def Obligations.CommandFrame : Prop :=
  ∀ (i : Instr) (s t : State), exec i s = .next t →
    t = { s with persons := t.persons, attLog := t.attLog, readCursor := t.readCursor, workType := t.workType,
                 protocolMode := t.protocolMode, rxSt := t.rxSt, txQ := t.txQ, evt := t.evt,
                 rndIn := t.rndIn, draws := t.draws, rtcIn := t.rtcIn, samples := t.samples } ∧
    s.evt <+: t.evt

/-- Each field of the device state is written only by the commands the spec names. Rests on R25, R26, R29, R31, R32. -/
def Obligations.EachDeviceFieldHasItsCommands : Prop :=
  ∀ (i : Instr) (s t : State), exec i s = .next t →
    (t.persons ≠ s.persons → ∃ prm, i = .addPerson prm ∨ i = .clearPersons prm ∨ i = .delPerson prm) ∧
    (t.attLog ≠ s.attLog → ∃ prm, i = .clearLog prm) ∧
    (t.readCursor ≠ s.readCursor → ∃ prm, i = .ackLog prm ∨ i = .clearLog prm) ∧
    (t.workType ≠ s.workType → ∃ prm, i = .setWorkType prm) ∧
    (t.protocolMode ≠ s.protocolMode → ∃ prm, i = .setProtocolMode prm) ∧
    (t.draws ≠ s.draws ∨ t.rndIn ≠ s.rndIn → (∃ prm, i = .readCard prm) ∧
      s.attLog.length ≤ s.readCursor.toNat ∧ s.workType ≠ .offline ∧ s.rndEn = true) ∧
    (t.samples ≠ s.samples ∨ t.rtcIn ≠ s.rtcIn → ∃ prm, i = .getTime prm)

/-- A command that answers ERR or PERR has written no device state and emitted no event. Rests on R145, R222. -/
def Obligations.ErrorAnswerWritesNothing : Prop :=
  ∀ (i : Instr) (s t : State), exec i s = .next t → t.rxSt = .txb →
    (t.txQ = frameBytes [0x68] s.ridReg ∨ t.txQ = frameBytes [0x6E] s.ridReg) →
    SameDevice s t ∧ t.evt = s.evt

/-- Command 111 gives no response; every other command gives exactly one, ASCII, of 1 to 252 bytes. Rests on R86, R121,
R122. -/
def Obligations.OneAsciiResponseOrNone : Prop :=
  ∀ (i : Instr) (s t : State), BlockInv s → validDateTime (rtcNow s) = true → exec i s = .next t →
    ((∃ prm, i = .ackLog prm) ∧ t.txQ = s.txQ ∧ t.rxSt = .hunt) ∨
    ((∀ prm, i ≠ .ackLog prm) ∧ t.rxSt = .txb ∧ ∃ P : Bytes, 1 ≤ P.length ∧ P.length ≤ 252 ∧
      (∀ b ∈ P, b.toNat < 128) ∧ t.txQ = frameBytes P s.ridReg)

/-- With request logging on, EV_RECEIVED comes before every event of the command; off, there is none. Rests on R142,
R225. -/
def Obligations.ReceivedEventComesFirst : Prop :=
  ∀ (i : Instr) (s : State),
    (∀ t, s.rlogEn = true → dispatch (encode i) s = .next t →
      ∃ es, t.evt = s.evt ++ .received i.commandId i.params :: es ∧ ∀ id prm, Event.received id prm ∉ es) ∧
    (s.rlogEn = false → dispatch (encode i) s = exec i s) ∧
    (∀ t, s.rlogEn = false → dispatch (encode i) s = .next t →
      ∃ es, t.evt = s.evt ++ es ∧ ∀ id prm, Event.received id prm ∉ es)

/-- The empty payload and the 232 unassigned ids give no response and change no state. Formalises R90, R189. -/
def Obligations.SilentPayloadsChangeNothing : Prop :=
  ∀ (s : State),
    dispatch [] s = .next { s with rxSt := .hunt } ∧
    ∀ (id : Byte) (prm : Bytes), id.toNat ∉ [10, 11, 17, 21, 22, 24, 31, 32, 33, 52, 54, 55, 56, 58, 59, 62, 63, 70, 71,
        101, 111, 248, 249, 250] →
      dispatch (id :: prm) s =
        .next { s with rxSt := .hunt, evt := s.evt ++ if s.rlogEn then [.received id prm] else [] }

/-- A few frames written out in the spec decode to the commands they stand for. Rests on R93, R170, R175, R178, R199. -/
def Obligations.SpecWordsDecodeToTheirCommands : Prop :=
  (frameAccept [0x02, 0x96, 0xFF, 0x04, 0x0A, 0x36, 0x35, 0x03] = .ok [0x0A] ∧ decode [0x0A] = .ok (.ping [])) ∧
    (frameAccept [0x02, 0x96, 0xFF, 0x05, 0x18, 0x32, 0x34, 0x34, 0x03] = .ok [0x18, 0x32] ∧
      decode [0x18, 0x32] = .ok (.setWorkType [0x32])) ∧
    (frameAccept [0x02, 0x96, 0xFF, 0x0C, 0x21, 0x41, 0x42, 0x43, 0x44, 0x45, 0x46, 0x47, 0x48, 0x34, 0x45, 0x03] =
        .ok [0x21, 0x41, 0x42, 0x43, 0x44, 0x45, 0x46, 0x47, 0x48] ∧
      decode [0x21, 0x41, 0x42, 0x43, 0x44, 0x45, 0x46, 0x47, 0x48] =
        .ok (.delPerson [0x41, 0x42, 0x43, 0x44, 0x45, 0x46, 0x47, 0x48])) ∧
    (frameAccept [0x02, 0x96, 0xFF, 0x07, 0xFA, 0x44, 0x45, 0x4C, 0x44, 0x42, 0x03] = .ok [0xFA, 0x44, 0x45, 0x4C] ∧
      decode [0xFA, 0x44, 0x45, 0x4C] = .ok (.clearLog [0x44, 0x45, 0x4C])) ∧
    (frameAccept [0x02, 0x96, 0xFF, 0x04, 0xF8, 0x39, 0x37, 0x03] = .ok [0xF8] ∧
      decode [0xF8] = .ok (.personCount []))

/-- No CommandId selects two rows, and exactly the 24 listed ids are assigned. Rests on R87, R88, R94. -/
def Obligations.OpcodeRowsDoNotOverlap : Prop :=
  (opcodeTable.Pairwise (fun r q => ∀ id, ¬ (r.selects id = true ∧ q.selects id = true))) ∧
    ∀ (id : Byte) (prm : Bytes), (∃ i, decode (id :: prm) = .ok i) ↔
      id.toNat ∈ [10, 11, 17, 21, 22, 24, 31, 32, 33, 52, 54, 55, 56, 58, 59, 62, 63, 70, 71, 101, 111, 248, 249, 250]

/-- A payload that decodes to an instruction is that instruction's encoding. Rests on R77, R87. -/
def Obligations.DecodedPayloadReencodes : Prop :=
  ∀ (P : Bytes) (i : Instr), decode P = .ok i → encode i = P ∧ (i.wf = true ↔ P.length ≤ 252)

/-- Every well-formed instruction, framed, is accepted and decodes to itself, for every reader id but 0x02. Rests on
R70, R102, R123. -/
def Obligations.InstructionFrameRoundTrip : Prop :=
  ∀ (i : Instr) (rid : Byte), i.wf = true → rid ≠ 0x02 →
    ∃ f d, frameEncode (encode i) rid = .ok f ∧ frameDecode f = .ok d ∧ frameValidate f = true ∧
      d.payload = encode i ∧ frameAccept f = .ok (encode i) ∧ decode (encode i) = .ok i

/-- The OK frame of reader id 0x02 is TRUNCATED to a decoder; with a duplicated STX it is accepted. Rests on R123, R258. -/
def Obligations.ReaderIdTwoBreaksTheRoundTrip : Prop :=
  frameEncode [0x6F] 0x02 = .ok [0x02, 0x02, 0xFF, 0x04, 0x6F, 0x39, 0x34, 0x03] ∧
    frameDecode [0x02, 0x02, 0xFF, 0x04, 0x6F, 0x39, 0x34, 0x03] = .error .truncated ∧
    frameAccept [0x02, 0x02, 0x02, 0xFF, 0x04, 0x6F, 0x39, 0x34, 0x03] = .ok [0x6F]

/-- A frame with one duplicated STX in front is accepted with the same payload, for every reader id. Rests on R74, R106,
R107. -/
def Obligations.DuplicatedStxIsTolerated : Prop :=
  ∀ (P : Bytes) (rid : Byte), P.length ≤ 252 → frameAccept (STX :: frameBytes P rid) = .ok P

/-- Decode and Validate accept exactly the byte strings that hold a well-formed frame. Rests on R70, R72, R76, R104,
R107, R109. -/
def Obligations.AcceptedSpanIsAWellFormedFrame : Prop :=
  ∀ (B P : Bytes), frameAccept B = .ok P ↔
    ∃ (pre dup : Bytes) (rid fill : Byte) (post : Bytes), STX ∉ pre ∧ ETX ∉ post ∧
      ((dup = [] ∧ rid ≠ STX) ∨ dup = [STX]) ∧ P.length ≤ 252 ∧
      B = pre ++ [STX] ++ dup ++ [rid, fill, BitVec.ofNat 8 (P.length + 3)] ++ P ++
        hexPair (xorBytes ([STX, rid, fill, BitVec.ofNat 8 (P.length + 3)] ++ P)) ++ [ETX] ++ post

/-- Decode answers MISSING_START exactly without an STX, MISSING_END exactly without an ETX after it. Rests on R104,
R105. -/
def Obligations.MissingDelimitersAreNamed : Prop :=
  ∀ (B : Bytes),
    (frameDecode B = .error .missingStart ↔ STX ∉ B) ∧
    (frameDecode B = .error .missingEnd ↔ ∃ pre post, B = pre ++ STX :: post ∧ STX ∉ pre ∧ ETX ∉ post)

/-- A frame with one byte of ReaderId, fill or payload changed is a CHECKSUM_MISMATCH. Rests on R107. -/
def Obligations.TamperedFrameFailsItsChecksum : Prop :=
  ∀ (P : Bytes) (rid : Byte) (k : Nat) (b : Byte), P.length ≤ 252 → rid ≠ 0x02 →
    ((k = 1 ∧ b ≠ 0x02) ∨ k = 2 ∨ (4 ≤ k ∧ k < 4 + P.length)) → (frameBytes P rid)[k]? ≠ some b →
    frameAccept ((frameBytes P rid).set k b) = .error .checksumMismatch

/-- Flipping bits of one byte of the span flips the same bits of the checksum; the empty span gives 0. Rests on R100. -/
def Obligations.ChecksumFollowsEveryFlip : Prop :=
  ∀ (B : Bytes) (a b : Nat), a ≤ b → b ≤ B.length →
    checksum B a a = 0 ∧
    (∀ (k : Nat) (m : Byte), a ≤ k → k < b → checksum (B.set k (B.getD k 0 ^^^ m)) a b = checksum B a b ^^^ m) ∧
    ∀ c, a ≤ c → c ≤ b → checksum B a b = checksum B a c ^^^ checksum B c b

/-- The block's OK response, looped back, is an ACK_LOG command. Rests on R262. -/
def Obligations.OkFrameIsAnAckLogFrame : Prop :=
  (∀ (rid : Byte), rid ≠ 0x02 → frameAccept (frameBytes [0x6F] rid) = .ok [0x6F]) ∧
    decode [0x6F] = .ok (.ackLog []) ∧
    ∀ (c : Byte) (prm : Bytes), c ∈ ([0x68, 0x6E, 0x61, 0x62, 0x63, 0x64, 0x7A] : Bytes) →
      decode (c :: prm) = .error (.unassigned c prm)

/-- HHmmss parses to a time exactly when its six bytes are that time's digits. Rests on R147, R149. -/
def Obligations.TimeFieldParsesExactly : Prop :=
  ∀ (P : Bytes) (a : Nat) (t : Hms), parseHms P a = some t ↔
    t.hour ≤ 23 ∧ t.minute ≤ 59 ∧ t.second ≤ 59 ∧ slice P a (a + 6) = fmt2 t.hour ++ fmt2 t.minute ++ fmt2 t.second

/-- ddMMyy and ddMMyyyy parse to a date exactly when it is valid and the bytes are its digits. Rests on R147, R148,
R150, R151. -/
def Obligations.DateFieldsParseExactly : Prop :=
  ∀ (P : Bytes) (a : Nat) (d : Date),
    (parseDmy2 P a = some d ↔ validDate d.day d.month d.year = true ∧ 2000 ≤ d.year ∧ d.year ≤ 2099 ∧
      slice P a (a + 6) = fmt2 d.day ++ fmt2 d.month ++ fmt2 (d.year % 100)) ∧
    (parseDmy4 P a = some d ↔ validDate d.day d.month d.year = true ∧
      slice P a (a + 8) = fmt2 d.day ++ fmt2 d.month ++ dec d.year 4)

/-- Dec writes at least w digits, exactly w when the value fits, that read back to the value. Rests on R153. -/
def Obligations.DecIsPaddedDecimal : Prop :=
  ∀ (v w : Nat), num? (dec v w) 0 (dec v w).length = some v ∧ w ≤ (dec v w).length ∧
    (v < 10 ^ w → (dec v w).length = w)

/-- The ISO weekday of the day after a valid date is the next weekday, across months, years and leap days. Rests on
R148, R152. -/
def Obligations.WeekdayAdvancesDayByDay : Prop :=
  (∀ (d : Date), validDate d.day d.month d.year = true →
      (1 ≤ isoWeekday d.year d.month d.day ∧ isoWeekday d.year d.month d.day ≤ 7) ∧
      isoWeekday (nextDay d).year (nextDay d).month (nextDay d).day = isoWeekday d.year d.month d.day % 7 + 1) ∧
    isoWeekday 2024 1 1 = 1

/-- CHECK_TIME accepts what GET_TIME writes for a clock in 2000 to 2099. Rests on R80, R154, R173, R174. -/
def Obligations.EchoedTimeIsAccepted : Prop :=
  ∀ (t : DateTime) (s : State), validDateTime t = true → 2000 ≤ t.year → t.year ≤ 2099 →
    exec (.checkTime (stamp t)) s = .next (answered [0x6F] s)

/-- RX moves the framer exactly as its state table says. Formalises R112, R113, R114, R115, R116. The pick and the held
byte stand in `sched` and `rxIn`, the model's form (logs 1, 2). -/
def Obligations.RxFollowsTheFramerTable : Prop :=
  ∀ (s : State) (b : Byte) (held : Bytes) (later : List Choice),
    s.live = true → s.sched = .rx :: later → s.rxIn = b :: held →
    let u : State := { s with sched := later, rxIn := held }
    (s.rxSt = .hunt → b = 0x02 → step s = .next { u with rxBuf := [b], rxSt := .stx1 }) ∧
    (s.rxSt = .hunt → b ≠ 0x02 → step s = .next u) ∧
    (s.rxSt = .stx1 → b = 0x02 → step s = .next { u with rxBuf := s.rxBuf ++ [b], rxSt := .rid }) ∧
    (s.rxSt = .stx1 → b ≠ 0x02 → step s = .next { u with rxBuf := s.rxBuf ++ [b], rxSt := .ffb }) ∧
    (s.rxSt = .rid → step s = .next { u with rxBuf := s.rxBuf ++ [b], rxSt := .ffb }) ∧
    (s.rxSt = .ffb → step s = .next { u with rxBuf := s.rxBuf ++ [b], rxSt := .len }) ∧
    (s.rxSt = .len → b = 0 → step s = complete { u with rxBuf := s.rxBuf ++ [b] }) ∧
    (s.rxSt = .len → b ≠ 0 → step s = .next { u with rxBuf := s.rxBuf ++ [b], rxRem := b, rxSt := .body }) ∧
    (s.rxSt = .body → s.rxRem ≠ 1 →
      step s = .next { u with rxBuf := s.rxBuf ++ [b], rxRem := s.rxRem - 1 }) ∧
    (s.rxSt = .body → s.rxRem = 1 → step s = complete { u with rxBuf := s.rxBuf ++ [b], rxRem := 0 })

/-- COMPLETE drops a bad span with one frame error, or dispatches the accepted payload. Rests on R117, R224. -/
def Obligations.CompleteDropsOrDispatches : Prop :=
  ∀ (s : State),
    (∀ c, frameAccept s.rxBuf = .error c → complete s =
      .next { s with rxBuf := [], rxRem := 0, rxSt := .hunt, evt := s.evt ++ [.frameError c] }) ∧
    (∀ P, frameAccept s.rxBuf = .ok P → complete s = dispatch P { s with rxBuf := [], rxRem := 0 })

/-- The RX step that completes an accepted frame runs the instruction its payload decodes to. Rests on R117, R140, R142.
The pick and the held byte stand in `sched` and `rxIn`, the model's form (logs 1, 2). -/
def Obligations.StepRunsTheDecodedInstruction : Prop :=
  ∀ (s : State) (b : Byte) (held : Bytes) (later : List Choice) (P : Bytes) (i : Instr),
    s.live = true → s.sched = .rx :: later → s.rxIn = b :: held → s.rxSt = .body → s.rxRem = 1 →
    frameAccept (s.rxBuf ++ [b]) = .ok P → decode P = .ok i →
    step s = exec i { s with
      sched := later, rxIn := held, rxBuf := [], rxRem := 0,
      evt := s.evt ++ if s.rlogEn then [.received i.commandId i.params] else [] }

/-- A frame fed byte by byte after HUNT is cut into one span and its instruction runs at the last byte. Rests on R75,
R110, R117, R123. The picks and the held bytes stand in `sched` and `rxIn`, the model's form (logs 1, 2). -/
def Obligations.FramerDeliversTheInstruction : Prop :=
  ∀ (i : Instr) (rid : Byte) (s : State) (held : Bytes) (later : List Choice), i.wf = true → rid ≠ 0x02 →
    s.live = true → s.rxSt = .hunt → s.rxBuf = [] → s.rxRem = 0 →
    s.rxIn = frameBytes (encode i) rid ++ held →
    s.sched = List.replicate (frameBytes (encode i) rid).length .rx ++ later →
    Host.Core.run core (frameBytes (encode i) rid).length s = exec i { s with
      sched := later, rxIn := held, rxSt := .body,
      evt := s.evt ++ if s.rlogEn then [.received i.commandId i.params] else [] }

/-- The very next step after withFetchWord runs the instruction of the table word. Rests on R70, R117, R140. What
withFetchWord places is the model's choice (log 12). -/
def Obligations.FetchWordRunsTheInstruction : Prop :=
  ∀ (s : State) (nbits w : Nat) (i : Instr), nbits ≤ 2016 → decodeTableWord nbits w = some i →
    step (s.withFetchWord nbits w) = exec i { s with
      live := true, rxSt := .body, rxBuf := [], rxRem := 0, txQ := [],
      evt := s.evt ++ if s.rlogEn then [.received i.commandId i.params] else [] }

/-- TX sends the first byte of the response, and after the last one the framer hunts. Formalises R119. The pick stands
in `sched` and sent bytes in `txOut`, the model's form (logs 1, 8). -/
def Obligations.TxSendsTheFirstByte : Prop :=
  ∀ (s : State) (b : Byte) (q : Bytes) (later : List Choice),
    s.live = true → s.sched = .tx :: later → s.txQ = b :: q →
    step s = .next { s with sched := later, txQ := q, txOut := s.txOut ++ [b],
                            rxSt := if q = [] then .hunt else s.rxSt }

/-- As many TX steps as the queue has bytes send the whole response in order and free the framer. Rests on R61, R119,
R263. The picks stand in `sched` and sent bytes in `txOut`, the model's form (logs 1, 8). -/
def Obligations.TxDrainsTheWholeResponse : Prop :=
  ∀ (s : State) (later : List Choice), s.live = true → s.txQ ≠ [] →
    s.sched = List.replicate s.txQ.length .tx ++ later →
    Host.Core.run core s.txQ.length s =
      .next { s with sched := later, txQ := [], txOut := s.txOut ++ s.txQ, rxSt := .hunt }

/-- The model's choice: a pick that is not enabled, or no pick, changes nothing; a held byte stays held (logs 2, 3).
Rests on R118, R235, R254. -/
def Obligations.DisabledPicksAndIdleKeepTheBlock : Prop :=
  ∀ (s : State) (later : List Choice), s.live = true →
    (s.sched = [] → step s = .next s) ∧
    (s.sched = .rx :: later → s.rxSt = .txb → step s = .next { s with sched := later }) ∧
    (s.sched = .rx :: later → s.rxIn = [] → step s = .next { s with sched := later }) ∧
    (s.sched = .tx :: later → s.txQ = [] → step s = .next { s with sched := later }) ∧
    (rxReady s = true ↔ s.rxSt ≠ .txb) ∧ (txValid s = true ↔ s.txQ ≠ [])

/-- LINK_RESET clears framer and response, keeps every other block field, emits nothing; the held bytes stay by the
model's choice (log 18). Rests on R236. The pick stands in `sched`, the model's form (log 1). That the ports, `rxIn`
among them, keep their contents is the model's choice (log 18), not a clause of R236. -/
def Obligations.LinkResetKeepsTheDevice : Prop :=
  ∀ (s : State) (later : List Choice), s.live = true → s.sched = .linkReset :: later →
    step s = .next { s with sched := later, rxSt := .hunt, rxBuf := [], rxRem := 0, txQ := [] }

/-- INJECT appends a good record at the end of the log, or acknowledges INJ_BAD or INJ_FULL without change. Formalises
R33. The pick stands in `sched` and acknowledgements in `acks`, the model's form (logs 1, 8). -/
def Obligations.InjectAppendsOrRefuses : Prop :=
  ∀ (s : State) (ts : DateTime) (cid : Bytes) (later : List Choice), s.live = true →
    s.sched = .inject ts cid :: later →
    let bad := validDateTime ts = false ∨ cid.length < 1 ∨ Config.maxAttCardId < cid.length ∨
      ∃ c ∈ cid, c.toNat < 0x20 ∨ 0x7E < c.toNat
    (bad → step s = .next { s with sched := later, acks := s.acks ++ [.bad] }) ∧
    (¬ bad → s.attLog.length = Config.maxLog →
      step s = .next { s with sched := later, acks := s.acks ++ [.full] }) ∧
    (¬ bad → s.attLog.length ≠ Config.maxLog →
      step s = .next { s with sched := later, attLog := s.attLog ++ [⟨ts, cid⟩], acks := s.acks ++ [.ok] })

/-- RESET loads every block field in any state, coercing the modes with one event each; the ports stay by the model's
choice (logs 8, 18). Rests on R241, R250, R251. The pick stands in `sched` and events in `evt`, the model's form
(logs 1, 8). That the ports keep their contents is the model's choice (logs 8, 18), not a clause of R250. -/
def Obligations.ResetLoadsEveryField : Prop :=
  ∀ (s : State) (cfg : ConfigInputs) (later : List Choice), s.sched = .reset cfg :: later →
    step s = .next { s with
      persons := [], attLog := [], readCursor := 0,
      workType := if cfg.workType = 1 then .online else if cfg.workType = 2 then .offline else .onOff,
      protocolMode := if cfg.protocolMode = 1 then .server else .client,
      ridReg := cfg.readerId, rndEn := cfg.randomReads, rlogEn := cfg.requestLogging,
      rxSt := .hunt, rxBuf := [], rxRem := 0, txQ := [], live := true, sched := later,
      evt := s.evt ++
        ((if cfg.workType ∈ ([1, 2, 3] : Bytes) then [] else [.configCoerced .workType cfg.workType]) ++
         (if cfg.protocolMode ∈ ([0, 1] : Bytes) then [] else [.configCoerced .protocolMode cfg.protocolMode])) }

/-- The model's choice: State.reset is RESET with the default inputs, nothing picked, offered, drawn or given out (logs
1, 2, 4, 5, 6, 8, 9). Rests on R27, R250. -/
def Obligations.ResetStateTakesTheDefaults : Prop :=
  State.reset = resetBlock
      { readerId := 150, randomReads := false, requestLogging := false, workType := 3, protocolMode := 0 }
      State.reset ∧
    State.reset.persons = [] ∧ State.reset.attLog = [] ∧ State.reset.readCursor = 0 ∧
    State.reset.workType = .onOff ∧ State.reset.protocolMode = .client ∧ State.reset.ridReg = 0x96 ∧
    State.reset.rndEn = false ∧ State.reset.rlogEn = false ∧ State.reset.rxSt = .hunt ∧ State.reset.rxBuf = [] ∧
    State.reset.rxRem = 0 ∧ State.reset.txQ = [] ∧
    State.reset.live = true ∧ State.reset.sched = [] ∧ State.reset.rxIn = [] ∧ State.reset.rndIn = [] ∧
    State.reset.draws = 0 ∧ State.reset.rtcIn = [] ∧ State.reset.samples = 0 ∧ State.reset.txOut = [] ∧
    State.reset.evt = [] ∧ State.reset.acks = []

/-- Before the first RESET no step but RESET happens. Formalises R39. That no step shows as the fault `beforeReset` is
the model's form (log 4). -/
def Obligations.NothingRunsBeforeTheFirstReset : Prop :=
  ∀ (s : State), s.live = false → (∀ cfg later, s.sched ≠ .reset cfg :: later) →
    step s = .fault .beforeReset

/-- The state after reset meets the block's invariant. Rests on R38, R250. -/
def Obligations.ResetStateIsGood : Prop :=
  BlockInv State.reset

/-- RESET from any state, good or not, leaves a state that meets the invariant. Rests on R38, R250. -/
def Obligations.EveryResetIsGood : Prop :=
  ∀ (s : State) (cfg : ConfigInputs) (later : List Choice), s.sched = .reset cfg :: later →
    ∃ t, step s = .next t ∧ t.live = true ∧ BlockInv t

/-- Every step from a good state answers a good state. Rests on R23, R24, R25, R34, R38. -/
def Obligations.StepKeepsTheInvariant : Prop :=
  ∀ (s t : State), BlockInv s → step s = .next t → BlockInv t

/-- The block's invariant implies each of the seven points the spec lists. Rests on R38, R111. -/
def Obligations.InvariantGivesTheSpecsList : Prop :=
  ∀ (s : State), BlockInv s → SpecInvariant s

/-- After the first RESET every step of every kind ends in a next state that is still live. Rests on R220, R227, R264. -/
def Obligations.StepNeverStopsAfterReset : Prop :=
  ∀ (s : State), s.live = true → ∃ t, step s = .next t ∧ t.live = true

/-- No step but RESET changes the reader id, the random-reads or the request-logging latch. Rests on R28, R230, R260. -/
def Obligations.OnlyResetWritesTheLatches : Prop :=
  ∀ (s t : State), step s = .next t → (∀ cfg later, s.sched ≠ .reset cfg :: later) → SameLatches s t

/-- The device state changes only by RESET, INJECT, or an accepted frame with an assigned command. Rests on R62, R224,
R253. -/
def Obligations.DeviceChangesOnlyByCommandInjectReset : Prop :=
  ∀ (s t : State), step s = .next t →
    SameDevice s t ∨
    (∃ cfg later, s.sched = .reset cfg :: later) ∨
    (∃ ts cid later, s.sched = .inject ts cid :: later ∧ SameDevice s { t with attLog := s.attLog }) ∨
    (∃ later b held P i, s.sched = .rx :: later ∧ s.rxIn = b :: held ∧
      frameAccept (s.rxBuf ++ [b]) = .ok P ∧ decode P = .ok i)

/-- From a good state no step emits MISSING_START, LENGTH_MISMATCH or PAYLOAD_TOO_LONG. Rests on R111, R221, R238. -/
def Obligations.BlockRaisesOnlyThreeFrameErrors : Prop :=
  ∀ (s t : State), BlockInv s → validDateTime (rtcNow s) = true → step s = .next t →
    ∃ new, t.evt = s.evt ++ new ∧
      ∀ c, Event.frameError c ∈ new → c = .missingEnd ∨ c = .truncated ∨ c = .checksumMismatch

/-- Table, date and name of the persons, and the protocol mode, never change anything a peer or observer sees. Rests on
R23, R29. -/
def Obligations.UnreadDataNeverShows : Prop :=
  ∀ (s s' t : State), SameVisible s s' → step s = .next t → ∃ t', step s' = .next t' ∧ SameVisible t t'
end

