-- ==== Sys2Proof/Laws/Text.lean ====
section
/-! SUPPORT. The digits: what `dec` writes and what `num?` reads (`41_dispatch.md` R146, R147, R153). -/

namespace Sys2Proof.Machine

@[simp] theorem slice_length (B : Bytes) (a b : Nat) : (slice B a b).length = min (b - a) (B.length - a) := by
  simp [slice]

@[simp] theorem lowDigits_length (w v : Nat) : (lowDigits w v).length = w := by
  induction w generalizing v with
  | zero => rfl
  | succ w ih => simp [lowDigits, ih]

theorem digitByte_toNat {d : Nat} (h : d < 10) : (digitByte d).toNat = 0x30 + d := by
  simp only [digitByte, BitVec.toNat_ofNat]; omega

/-- A digit's byte reads back to the digit. -/
theorem digit_digitByte {d : Nat} (h : d < 10) : digit? (digitByte d) = some d := by
  have := digitByte_toNat h
  simp only [digit?, this]
  rw [if_pos (by omega)]
  simp

/-- A byte that is a digit is that digit's byte, and the digit is below 10. -/
theorem digit_eq_some {c : Byte} {d : Nat} : digit? c = some d ↔ d < 10 ∧ c = digitByte d := by
  constructor
  · intro h
    unfold digit? at h
    split at h
    · rename_i hc
      simp only [Option.some.injEq] at h
      subst h
      refine ⟨by omega, ?_⟩
      apply BitVec.eq_of_toNat_eq
      rw [digitByte_toNat (by omega)]
      omega
    · cases h
  · rintro ⟨h, rfl⟩
    exact digit_digitByte h

theorem numFrom_append (acc : Nat) (A B : Bytes) :
    numFrom acc (A ++ B) = (numFrom acc A).bind (fun v => numFrom v B) := by
  induction A generalizing acc with
  | nil => rfl
  | cons c A ih =>
    simp only [List.cons_append, numFrom]
    cases digit? c with
    | none => rfl
    | some d => exact ih _

/-- The `w` low digits of `v`, read after `acc`. -/
theorem numFrom_lowDigits (acc w v : Nat) : numFrom acc (lowDigits w v) = some (acc * 10 ^ w + v % 10 ^ w) := by
  induction w generalizing v with
  | zero => simp [lowDigits, numFrom, Nat.mod_one]
  | succ w ih =>
    have hd : v % 10 < 10 := by omega
    have hm : v % 10 ^ (w + 1) = 10 * (v / 10 % 10 ^ w) + v % 10 := by
      rw [pow_succ, Nat.mul_comm (10 ^ w) 10, Nat.mod_mul]; ring
    simp only [lowDigits, numFrom_append, ih, Option.bind_some, numFrom, digit_digitByte hd]
    rw [hm, pow_succ]
    congr 1
    ring

/-- All digits of `v`, read after nothing. -/
theorem numFrom_allDigits (fuel v : Nat) (h : v ≤ fuel) : numFrom 0 (allDigits fuel v) = some v := by
  induction fuel generalizing v with
  | zero => simp [allDigits, numFrom]; omega
  | succ fuel ih =>
    unfold allDigits
    split
    · simp_all [numFrom]
    · have hd : v % 10 < 10 := by omega
      rw [numFrom_append, ih (v / 10) (by omega)]
      simp only [Option.bind_some, numFrom, digit_digitByte hd]
      congr 1
      omega

/-- A value that fits its width is written in exactly that width. -/
theorem dec_of_lt {v w : Nat} (h : v < 10 ^ w) : dec v w = lowDigits w v := by
  simp [dec, Nat.div_eq_of_lt h, allDigits]

theorem dec_length_of_lt {v w : Nat} (h : v < 10 ^ w) : (dec v w).length = w := by
  rw [dec_of_lt h, lowDigits_length]

/-- `lowDigits` is the only way to write a number in a width. -/
theorem numFrom_eq_some {acc : Nat} {ds : Bytes} {v : Nat} (h : numFrom acc ds = some v) :
    ∃ x, x < 10 ^ ds.length ∧ v = acc * 10 ^ ds.length + x ∧ ds = lowDigits ds.length x := by
  induction ds using List.reverseRecOn generalizing v with
  | nil => exact ⟨0, by simp, by simpa [numFrom] using h.symm, rfl⟩
  | append_singleton ds c ih =>
    rw [numFrom_append] at h
    cases hv : numFrom acc ds with
    | none => simp [hv] at h
    | some y =>
      obtain ⟨x, hx, hy, hds⟩ := ih hv
      simp only [hv, Option.bind_some, numFrom] at h
      cases hd : digit? c with
      | none => simp [hd] at h
      | some d =>
        obtain ⟨hlt, rfl⟩ := digit_eq_some.mp hd
        simp only [hd, Option.some.injEq] at h
        refine ⟨10 * x + d, ?_, ?_, ?_⟩
        · simp only [List.length_append, List.length_singleton, pow_succ]; omega
        · simp only [List.length_append, List.length_singleton, pow_succ]; rw [← h, hy]; ring
        · have h1 : (10 * x + d) / 10 = x := by omega
          have h2 : (10 * x + d) % 10 = d := by omega
          simp only [List.length_append, List.length_singleton, lowDigits, h1, h2]
          rw [← hds]

/-- `Num` reads `v` exactly when the field is there and holds the `w` digits of `v`. -/
theorem num_eq_some {P : Bytes} {a w v : Nat} :
    num? P a w = some v ↔ a + w ≤ P.length ∧ v < 10 ^ w ∧ slice P a (a + w) = lowDigits w v := by
  unfold num?
  split
  · simp; omega
  · rename_i hlen
    have hl : (slice P a (a + w)).length = w := by rw [slice_length]; omega
    constructor
    · intro h
      obtain ⟨x, hx, hv, hds⟩ := numFrom_eq_some h
      rw [hl] at hx hds
      simp only [Nat.zero_mul, Nat.zero_add] at hv
      subst hv
      exact ⟨by omega, hx, hds⟩
    · rintro ⟨-, hv, hs⟩
      rw [hs, numFrom_lowDigits, Nat.mod_eq_of_lt hv]
      simp

theorem isoWeekday_range (y m d : Nat) : 1 ≤ isoWeekday y m d ∧ isoWeekday y m d ≤ 7 := by
  have key : ∀ w : Nat, (1 ≤ if w % 7 = 0 then 7 else w % 7) ∧ (if w % 7 = 0 then 7 else w % 7) ≤ 7 := by
    intro w; split <;> omega
  exact key _

/-- The stamp of a valid DateTime is 14 bytes. -/
theorem stamp_length {t : DateTime} (h : validDateTime t = true) : (stamp t).length = 14 := by
  simp only [validDateTime, validDate, Bool.and_eq_true, decide_eq_true_eq] at h
  obtain ⟨⟨_, _, _, _, _, hd⟩, _, _, _⟩ := h
  have hd31 : t.day < 10 ^ 2 := by
    have : daysIn t.month t.year ≤ 31 := by unfold daysIn; split_ifs <;> omega
    omega
  simp only [stamp, fmt2, List.length_append, List.length_singleton]
  rw [dec_length_of_lt (v := t.hour) (by omega), dec_length_of_lt (v := t.minute) (by omega),
    dec_length_of_lt (v := t.second) (by omega), dec_length_of_lt hd31,
    dec_length_of_lt (v := t.month) (by omega), dec_length_of_lt (v := t.year % 100) (by omega)]

end Sys2Proof.Machine
end

