-- ==== Sys2Proof/Laws/Frame.lean ====
section
/-! SUPPORT. What the operations of the frame codec can do, once (`40_frame_codec.md` R100 to R109). -/

namespace Sys2Proof.Machine

/-! ### Checksum -/

@[simp] theorem xorBytes_append (A B : Bytes) : xorBytes (A ++ B) = xorBytes A ^^^ xorBytes B := by
  induction A with
  | nil => simp [xorBytes]
  | cons b A ih => simp [xorBytes, ih, BitVec.xor_assoc]

theorem hexU_injective : ∀ v w : BitVec 4, hexU v = hexU w → v = w := by decide

theorem hexPair_injective {x y : Byte} (h : hexPair x = hexPair y) : x = y := by
  simp only [hexPair, List.cons.injEq, and_true] at h
  have h1 := hexU_injective _ _ h.1
  have h2 := hexU_injective _ _ h.2
  have hx : x = x.extractLsb' 4 4 ++ x.extractLsb' 0 4 := by ext i; simp; grind
  have hy : y = y.extractLsb' 4 4 ++ y.extractLsb' 0 4 := by ext i; simp; grind
  rw [hx, hy, h1, h2]

@[simp] theorem hexPair_length (x : Byte) : (hexPair x).length = 2 := rfl

@[simp] theorem frameCovered_length (P : Bytes) (rid : Byte) : (frameCovered P rid).length = 4 + P.length := by
  simp [frameCovered]; omega

@[simp] theorem frameBytes_length (P : Bytes) (rid : Byte) : (frameBytes P rid).length = 7 + P.length := by
  simp [frameBytes]; omega

theorem frameBytes_ne_nil (P : Bytes) (rid : Byte) : frameBytes P rid ≠ [] := by
  simp [frameBytes]

/-! ### Encode -/

theorem frameEncode_of_le {P : Bytes} (rid : Byte) (h : P.length ≤ 252) : frameEncode P rid = .ok (frameBytes P rid) := by
  simp [frameEncode, Config.maxPayload]; omega

theorem frameEncode_of_gt {P : Bytes} (rid : Byte) (h : 252 < P.length) : frameEncode P rid = .error .payloadTooLong := by
  simp [frameEncode, Config.maxPayload]; omega

/-! ### Delimiters -/

theorem firstIndex_eq_none {x : Byte} {B : Bytes} : firstIndex x B = none ↔ x ∉ B := by
  induction B with
  | nil => simp [firstIndex]
  | cons b B ih =>
    by_cases h : b = x
    · simp [firstIndex, h]
    · simp [firstIndex, h, ih, Ne.symm h]

theorem firstIndex_eq_some {x : Byte} {B : Bytes} {i : Nat} :
    firstIndex x B = some i ↔ ∃ pre post, B = pre ++ x :: post ∧ x ∉ pre ∧ pre.length = i := by
  induction B generalizing i with
  | nil => simp [firstIndex]
  | cons b B ih =>
    by_cases h : b = x
    · subst h
      simp only [firstIndex, if_true, Option.some.injEq]
      constructor
      · rintro rfl; exact ⟨[], B, rfl, by simp, rfl⟩
      · rintro ⟨pre, post, hB, hp, rfl⟩
        cases pre with
        | nil => rfl
        | cons c pre => simp at hB hp; exact absurd hB.1 hp.1
    · simp only [firstIndex, if_neg h, Option.map_eq_some_iff, ih]
      constructor
      · rintro ⟨_, ⟨pre, post, rfl, hp, rfl⟩, rfl⟩
        exact ⟨b :: pre, post, rfl, by simp [hp, Ne.symm h], rfl⟩
      · rintro ⟨pre, post, hB, hp, rfl⟩
        cases pre with
        | nil => simp at hB; exact absurd hB.1 h
        | cons c pre =>
          simp at hB hp
          exact ⟨pre.length, ⟨pre, post, hB.2, hp.2, rfl⟩, rfl⟩

theorem lastIndex_eq_none {x : Byte} {B : Bytes} : lastIndex x B = none ↔ x ∉ B := by
  induction B with
  | nil => simp [lastIndex]
  | cons b B ih =>
    unfold lastIndex
    cases h : lastIndex x B with
    | none =>
      by_cases hb : b = x
      · simp [hb]
      · simp [hb, Ne.symm hb, ih.mp h]
    | some i =>
      have : x ∈ B := by by_contra hx; rw [ih.mpr hx] at h; cases h
      simp [this]

theorem lastIndex_append_cons {x : Byte} (pre post : Bytes) (h : x ∉ post) :
    lastIndex x (pre ++ x :: post) = some pre.length := by
  induction pre with
  | nil => simp [lastIndex, lastIndex_eq_none.mpr h]
  | cons b pre ih => simp [lastIndex, ih]

theorem lastIndex_eq_some {x : Byte} {B : Bytes} {i : Nat} :
    lastIndex x B = some i ↔ ∃ pre post, B = pre ++ x :: post ∧ x ∉ post ∧ pre.length = i := by
  constructor
  · intro h
    induction B generalizing i with
    | nil => simp [lastIndex] at h
    | cons b B ih =>
      unfold lastIndex at h
      cases hB : lastIndex x B with
      | none =>
        simp only [hB] at h
        split at h
        · rename_i hb
          simp only [Option.some.injEq] at h
          exact ⟨[], B, by rw [hb]; rfl, lastIndex_eq_none.mp hB, h⟩
        · cases h
      | some j =>
        simp only [hB, Option.some.injEq] at h
        obtain ⟨pre, post, rfl, hp, rfl⟩ := ih hB
        exact ⟨b :: pre, post, rfl, hp, h⟩
  · rintro ⟨pre, post, rfl, hp, rfl⟩
    exact lastIndex_append_cons pre post hp

theorem lastIndex_lt {x : Byte} {B : Bytes} {i : Nat} (h : lastIndex x B = some i) : i < B.length := by
  obtain ⟨pre, post, rfl, -, rfl⟩ := lastIndex_eq_some.mp h
  simp

/-! ### Decode and Validate -/

/-- Everything the Length checks can do. -/
theorem frameCheck_eq_ok {B : Bytes} {h e : Nat} {d : DecodedFrame} : frameCheck B h e = .ok d ↔
    d.h = h ∧ d.e = e ∧ d.len = (B.getD (h + 2) 0).toNat ∧ h + 2 < e ∧ 3 ≤ d.len ∧ h + d.len + 2 = e ∧
      d.payload = slice B (h + 3) (h + d.len) := by
  obtain ⟨payload, h', len, e'⟩ := d
  unfold frameCheck
  dsimp only
  constructor
  · intro hd
    split_ifs at hd
    simp only [Except.ok.injEq, DecodedFrame.mk.injEq] at hd
    obtain ⟨rfl, rfl, rfl, rfl⟩ := hd
    exact ⟨rfl, rfl, rfl, by omega, by omega, by omega, rfl⟩
  · rintro ⟨rfl, rfl, hl, h1, h2, h3, hp⟩
    rw [← hl, if_neg (by omega), if_neg (by omega), if_neg (by omega), if_neg (by omega), ← hp]

/-- Everything Decode says when it accepts: where the first STX, the ReaderId and the last ETX are, and that Length fits. -/
theorem frameDecode_eq_ok {B : Bytes} {d : DecodedFrame} : frameDecode B = .ok d ↔
    ∃ s k, firstIndex STX B = some s ∧ lastIndex ETX (B.drop (s + 1)) = some k ∧
      d.h = readerIndex B s ∧ d.e = s + 1 + k ∧ d.len = (B.getD (d.h + 2) 0).toNat ∧
      d.h + 2 < d.e ∧ 3 ≤ d.len ∧ d.h + d.len + 2 = d.e ∧ d.payload = slice B (d.h + 3) (d.h + d.len) := by
  unfold frameDecode
  constructor
  · intro h
    split at h
    · cases h
    · rename_i s hs
      split at h
      · cases h
      · rename_i k hk
        obtain ⟨h1, h2, h3, h4, h5, h6, h7⟩ := frameCheck_eq_ok.mp h
        rw [← h1] at h3 h4 h6 h7
        rw [← h2] at h4 h6
        exact ⟨s, k, hs, hk, h1, h2, h3, h4, h5, h6, h7⟩
  · rintro ⟨s, k, hs, hk, hh, he, hl, h1, h2, h3, hp⟩
    simp only [hs, hk]
    exact frameCheck_eq_ok.mpr ⟨hh, he, hh ▸ hl, by omega, h2, by omega, hh ▸ hp⟩

/-- A decoded payload fits a frame. -/
theorem frameDecode_payload_length {B : Bytes} {d : DecodedFrame} (h : frameDecode B = .ok d) :
    d.payload.length = d.len - 3 ∧ d.payload.length ≤ 252 := by
  obtain ⟨s, k, -, hk, -, he, hl, -, h2, h3, hp⟩ := frameDecode_eq_ok.mp h
  have hlen : d.len < 256 := by rw [hl]; exact (B.getD (d.h + 2) 0).isLt
  have hkl := lastIndex_lt hk
  simp only [List.length_drop] at hkl
  rw [hp, slice_length]
  omega

/-- A span is accepted exactly when Decode returns and Validate is true (`40_frame_codec.md` R109). -/
theorem frameAccept_eq_ok {B P : Bytes} :
    frameAccept B = .ok P ↔ ∃ d, frameDecode B = .ok d ∧ frameValidate B = true ∧ d.payload = P := by
  unfold frameAccept
  cases hd : frameDecode B with
  | error c => simp
  | ok d => by_cases hv : frameValidate B = true <;> simp [hv]

theorem frameAccept_payload_length {B P : Bytes} (h : frameAccept B = .ok P) : P.length ≤ 252 := by
  obtain ⟨d, hd, -, rfl⟩ := frameAccept_eq_ok.mp h
  exact (frameDecode_payload_length hd).2

end Sys2Proof.Machine
end

