-- ==== Sys2Proof/Laws/State.lean ====
section
/-! SUPPORT. One lemma per field per update: what each shared operation leaves in each field. What `respond` does to the
three fields it writes is `respond_cases` in `Laws/Ops.lean`; `txByte`, `injectRecord` and `resetBlock` have their lemmas there. -/

namespace Sys2Proof.Machine

section
variable (s : State)

/-! ### `emit` -/

@[simp] theorem emit_persons (e : Event) : (emit e s).persons = s.persons := rfl
@[simp] theorem emit_attLog (e : Event) : (emit e s).attLog = s.attLog := rfl
@[simp] theorem emit_readCursor (e : Event) : (emit e s).readCursor = s.readCursor := rfl
@[simp] theorem emit_workType (e : Event) : (emit e s).workType = s.workType := rfl
@[simp] theorem emit_protocolMode (e : Event) : (emit e s).protocolMode = s.protocolMode := rfl
@[simp] theorem emit_ridReg (e : Event) : (emit e s).ridReg = s.ridReg := rfl
@[simp] theorem emit_rndEn (e : Event) : (emit e s).rndEn = s.rndEn := rfl
@[simp] theorem emit_rlogEn (e : Event) : (emit e s).rlogEn = s.rlogEn := rfl
@[simp] theorem emit_rxSt (e : Event) : (emit e s).rxSt = s.rxSt := rfl
@[simp] theorem emit_rxBuf (e : Event) : (emit e s).rxBuf = s.rxBuf := rfl
@[simp] theorem emit_rxRem (e : Event) : (emit e s).rxRem = s.rxRem := rfl
@[simp] theorem emit_txQ (e : Event) : (emit e s).txQ = s.txQ := rfl
@[simp] theorem emit_live (e : Event) : (emit e s).live = s.live := rfl
@[simp] theorem emit_sched (e : Event) : (emit e s).sched = s.sched := rfl
@[simp] theorem emit_rxIn (e : Event) : (emit e s).rxIn = s.rxIn := rfl
@[simp] theorem emit_rndIn (e : Event) : (emit e s).rndIn = s.rndIn := rfl
@[simp] theorem emit_draws (e : Event) : (emit e s).draws = s.draws := rfl
@[simp] theorem emit_rtcIn (e : Event) : (emit e s).rtcIn = s.rtcIn := rfl
@[simp] theorem emit_samples (e : Event) : (emit e s).samples = s.samples := rfl
@[simp] theorem emit_txOut (e : Event) : (emit e s).txOut = s.txOut := rfl
@[simp] theorem emit_evt (e : Event) : (emit e s).evt = s.evt ++ [e] := rfl
@[simp] theorem emit_acks (e : Event) : (emit e s).acks = s.acks := rfl

/-! ### `acknowledge` -/

@[simp] theorem acknowledge_persons (a : InjAck) : (acknowledge a s).persons = s.persons := rfl
@[simp] theorem acknowledge_attLog (a : InjAck) : (acknowledge a s).attLog = s.attLog := rfl
@[simp] theorem acknowledge_readCursor (a : InjAck) : (acknowledge a s).readCursor = s.readCursor := rfl
@[simp] theorem acknowledge_workType (a : InjAck) : (acknowledge a s).workType = s.workType := rfl
@[simp] theorem acknowledge_protocolMode (a : InjAck) : (acknowledge a s).protocolMode = s.protocolMode := rfl
@[simp] theorem acknowledge_ridReg (a : InjAck) : (acknowledge a s).ridReg = s.ridReg := rfl
@[simp] theorem acknowledge_rndEn (a : InjAck) : (acknowledge a s).rndEn = s.rndEn := rfl
@[simp] theorem acknowledge_rlogEn (a : InjAck) : (acknowledge a s).rlogEn = s.rlogEn := rfl
@[simp] theorem acknowledge_rxSt (a : InjAck) : (acknowledge a s).rxSt = s.rxSt := rfl
@[simp] theorem acknowledge_rxBuf (a : InjAck) : (acknowledge a s).rxBuf = s.rxBuf := rfl
@[simp] theorem acknowledge_rxRem (a : InjAck) : (acknowledge a s).rxRem = s.rxRem := rfl
@[simp] theorem acknowledge_txQ (a : InjAck) : (acknowledge a s).txQ = s.txQ := rfl
@[simp] theorem acknowledge_live (a : InjAck) : (acknowledge a s).live = s.live := rfl
@[simp] theorem acknowledge_sched (a : InjAck) : (acknowledge a s).sched = s.sched := rfl
@[simp] theorem acknowledge_rxIn (a : InjAck) : (acknowledge a s).rxIn = s.rxIn := rfl
@[simp] theorem acknowledge_rndIn (a : InjAck) : (acknowledge a s).rndIn = s.rndIn := rfl
@[simp] theorem acknowledge_draws (a : InjAck) : (acknowledge a s).draws = s.draws := rfl
@[simp] theorem acknowledge_rtcIn (a : InjAck) : (acknowledge a s).rtcIn = s.rtcIn := rfl
@[simp] theorem acknowledge_samples (a : InjAck) : (acknowledge a s).samples = s.samples := rfl
@[simp] theorem acknowledge_txOut (a : InjAck) : (acknowledge a s).txOut = s.txOut := rfl
@[simp] theorem acknowledge_evt (a : InjAck) : (acknowledge a s).evt = s.evt := rfl
@[simp] theorem acknowledge_acks (a : InjAck) : (acknowledge a s).acks = s.acks ++ [a] := rfl

/-! ### `rosterAppend` -/

@[simp] theorem rosterAppend_persons (p : Person) : (rosterAppend p s).persons = s.persons ++ [p] := rfl
@[simp] theorem rosterAppend_attLog (p : Person) : (rosterAppend p s).attLog = s.attLog := rfl
@[simp] theorem rosterAppend_readCursor (p : Person) : (rosterAppend p s).readCursor = s.readCursor := rfl
@[simp] theorem rosterAppend_workType (p : Person) : (rosterAppend p s).workType = s.workType := rfl
@[simp] theorem rosterAppend_protocolMode (p : Person) : (rosterAppend p s).protocolMode = s.protocolMode := rfl
@[simp] theorem rosterAppend_ridReg (p : Person) : (rosterAppend p s).ridReg = s.ridReg := rfl
@[simp] theorem rosterAppend_rndEn (p : Person) : (rosterAppend p s).rndEn = s.rndEn := rfl
@[simp] theorem rosterAppend_rlogEn (p : Person) : (rosterAppend p s).rlogEn = s.rlogEn := rfl
@[simp] theorem rosterAppend_rxSt (p : Person) : (rosterAppend p s).rxSt = s.rxSt := rfl
@[simp] theorem rosterAppend_rxBuf (p : Person) : (rosterAppend p s).rxBuf = s.rxBuf := rfl
@[simp] theorem rosterAppend_rxRem (p : Person) : (rosterAppend p s).rxRem = s.rxRem := rfl
@[simp] theorem rosterAppend_txQ (p : Person) : (rosterAppend p s).txQ = s.txQ := rfl
@[simp] theorem rosterAppend_live (p : Person) : (rosterAppend p s).live = s.live := rfl
@[simp] theorem rosterAppend_sched (p : Person) : (rosterAppend p s).sched = s.sched := rfl
@[simp] theorem rosterAppend_rxIn (p : Person) : (rosterAppend p s).rxIn = s.rxIn := rfl
@[simp] theorem rosterAppend_rndIn (p : Person) : (rosterAppend p s).rndIn = s.rndIn := rfl
@[simp] theorem rosterAppend_draws (p : Person) : (rosterAppend p s).draws = s.draws := rfl
@[simp] theorem rosterAppend_rtcIn (p : Person) : (rosterAppend p s).rtcIn = s.rtcIn := rfl
@[simp] theorem rosterAppend_samples (p : Person) : (rosterAppend p s).samples = s.samples := rfl
@[simp] theorem rosterAppend_txOut (p : Person) : (rosterAppend p s).txOut = s.txOut := rfl
@[simp] theorem rosterAppend_evt (p : Person) : (rosterAppend p s).evt = s.evt := rfl
@[simp] theorem rosterAppend_acks (p : Person) : (rosterAppend p s).acks = s.acks := rfl

/-! ### `rosterRemoveAll` -/

@[simp] theorem rosterRemoveAll_persons (k : Bytes) : (rosterRemoveAll k s).persons = s.persons.filter (fun p => p.cardId != k) := rfl
@[simp] theorem rosterRemoveAll_attLog (k : Bytes) : (rosterRemoveAll k s).attLog = s.attLog := rfl
@[simp] theorem rosterRemoveAll_readCursor (k : Bytes) : (rosterRemoveAll k s).readCursor = s.readCursor := rfl
@[simp] theorem rosterRemoveAll_workType (k : Bytes) : (rosterRemoveAll k s).workType = s.workType := rfl
@[simp] theorem rosterRemoveAll_protocolMode (k : Bytes) : (rosterRemoveAll k s).protocolMode = s.protocolMode := rfl
@[simp] theorem rosterRemoveAll_ridReg (k : Bytes) : (rosterRemoveAll k s).ridReg = s.ridReg := rfl
@[simp] theorem rosterRemoveAll_rndEn (k : Bytes) : (rosterRemoveAll k s).rndEn = s.rndEn := rfl
@[simp] theorem rosterRemoveAll_rlogEn (k : Bytes) : (rosterRemoveAll k s).rlogEn = s.rlogEn := rfl
@[simp] theorem rosterRemoveAll_rxSt (k : Bytes) : (rosterRemoveAll k s).rxSt = s.rxSt := rfl
@[simp] theorem rosterRemoveAll_rxBuf (k : Bytes) : (rosterRemoveAll k s).rxBuf = s.rxBuf := rfl
@[simp] theorem rosterRemoveAll_rxRem (k : Bytes) : (rosterRemoveAll k s).rxRem = s.rxRem := rfl
@[simp] theorem rosterRemoveAll_txQ (k : Bytes) : (rosterRemoveAll k s).txQ = s.txQ := rfl
@[simp] theorem rosterRemoveAll_live (k : Bytes) : (rosterRemoveAll k s).live = s.live := rfl
@[simp] theorem rosterRemoveAll_sched (k : Bytes) : (rosterRemoveAll k s).sched = s.sched := rfl
@[simp] theorem rosterRemoveAll_rxIn (k : Bytes) : (rosterRemoveAll k s).rxIn = s.rxIn := rfl
@[simp] theorem rosterRemoveAll_rndIn (k : Bytes) : (rosterRemoveAll k s).rndIn = s.rndIn := rfl
@[simp] theorem rosterRemoveAll_draws (k : Bytes) : (rosterRemoveAll k s).draws = s.draws := rfl
@[simp] theorem rosterRemoveAll_rtcIn (k : Bytes) : (rosterRemoveAll k s).rtcIn = s.rtcIn := rfl
@[simp] theorem rosterRemoveAll_samples (k : Bytes) : (rosterRemoveAll k s).samples = s.samples := rfl
@[simp] theorem rosterRemoveAll_txOut (k : Bytes) : (rosterRemoveAll k s).txOut = s.txOut := rfl
@[simp] theorem rosterRemoveAll_evt (k : Bytes) : (rosterRemoveAll k s).evt = s.evt := rfl
@[simp] theorem rosterRemoveAll_acks (k : Bytes) : (rosterRemoveAll k s).acks = s.acks := rfl

/-! ### `rosterClear` -/

@[simp] theorem rosterClear_persons : (rosterClear s).persons = [] := rfl
@[simp] theorem rosterClear_attLog : (rosterClear s).attLog = s.attLog := rfl
@[simp] theorem rosterClear_readCursor : (rosterClear s).readCursor = s.readCursor := rfl
@[simp] theorem rosterClear_workType : (rosterClear s).workType = s.workType := rfl
@[simp] theorem rosterClear_protocolMode : (rosterClear s).protocolMode = s.protocolMode := rfl
@[simp] theorem rosterClear_ridReg : (rosterClear s).ridReg = s.ridReg := rfl
@[simp] theorem rosterClear_rndEn : (rosterClear s).rndEn = s.rndEn := rfl
@[simp] theorem rosterClear_rlogEn : (rosterClear s).rlogEn = s.rlogEn := rfl
@[simp] theorem rosterClear_rxSt : (rosterClear s).rxSt = s.rxSt := rfl
@[simp] theorem rosterClear_rxBuf : (rosterClear s).rxBuf = s.rxBuf := rfl
@[simp] theorem rosterClear_rxRem : (rosterClear s).rxRem = s.rxRem := rfl
@[simp] theorem rosterClear_txQ : (rosterClear s).txQ = s.txQ := rfl
@[simp] theorem rosterClear_live : (rosterClear s).live = s.live := rfl
@[simp] theorem rosterClear_sched : (rosterClear s).sched = s.sched := rfl
@[simp] theorem rosterClear_rxIn : (rosterClear s).rxIn = s.rxIn := rfl
@[simp] theorem rosterClear_rndIn : (rosterClear s).rndIn = s.rndIn := rfl
@[simp] theorem rosterClear_draws : (rosterClear s).draws = s.draws := rfl
@[simp] theorem rosterClear_rtcIn : (rosterClear s).rtcIn = s.rtcIn := rfl
@[simp] theorem rosterClear_samples : (rosterClear s).samples = s.samples := rfl
@[simp] theorem rosterClear_txOut : (rosterClear s).txOut = s.txOut := rfl
@[simp] theorem rosterClear_evt : (rosterClear s).evt = s.evt := rfl
@[simp] theorem rosterClear_acks : (rosterClear s).acks = s.acks := rfl

/-! ### `logAppend` -/

@[simp] theorem logAppend_persons (a : Attendance) : (logAppend a s).persons = s.persons := rfl
@[simp] theorem logAppend_attLog (a : Attendance) : (logAppend a s).attLog = s.attLog ++ [a] := rfl
@[simp] theorem logAppend_readCursor (a : Attendance) : (logAppend a s).readCursor = s.readCursor := rfl
@[simp] theorem logAppend_workType (a : Attendance) : (logAppend a s).workType = s.workType := rfl
@[simp] theorem logAppend_protocolMode (a : Attendance) : (logAppend a s).protocolMode = s.protocolMode := rfl
@[simp] theorem logAppend_ridReg (a : Attendance) : (logAppend a s).ridReg = s.ridReg := rfl
@[simp] theorem logAppend_rndEn (a : Attendance) : (logAppend a s).rndEn = s.rndEn := rfl
@[simp] theorem logAppend_rlogEn (a : Attendance) : (logAppend a s).rlogEn = s.rlogEn := rfl
@[simp] theorem logAppend_rxSt (a : Attendance) : (logAppend a s).rxSt = s.rxSt := rfl
@[simp] theorem logAppend_rxBuf (a : Attendance) : (logAppend a s).rxBuf = s.rxBuf := rfl
@[simp] theorem logAppend_rxRem (a : Attendance) : (logAppend a s).rxRem = s.rxRem := rfl
@[simp] theorem logAppend_txQ (a : Attendance) : (logAppend a s).txQ = s.txQ := rfl
@[simp] theorem logAppend_live (a : Attendance) : (logAppend a s).live = s.live := rfl
@[simp] theorem logAppend_sched (a : Attendance) : (logAppend a s).sched = s.sched := rfl
@[simp] theorem logAppend_rxIn (a : Attendance) : (logAppend a s).rxIn = s.rxIn := rfl
@[simp] theorem logAppend_rndIn (a : Attendance) : (logAppend a s).rndIn = s.rndIn := rfl
@[simp] theorem logAppend_draws (a : Attendance) : (logAppend a s).draws = s.draws := rfl
@[simp] theorem logAppend_rtcIn (a : Attendance) : (logAppend a s).rtcIn = s.rtcIn := rfl
@[simp] theorem logAppend_samples (a : Attendance) : (logAppend a s).samples = s.samples := rfl
@[simp] theorem logAppend_txOut (a : Attendance) : (logAppend a s).txOut = s.txOut := rfl
@[simp] theorem logAppend_evt (a : Attendance) : (logAppend a s).evt = s.evt := rfl
@[simp] theorem logAppend_acks (a : Attendance) : (logAppend a s).acks = s.acks := rfl

/-! ### `resetLog` -/

@[simp] theorem resetLog_persons : (resetLog s).persons = s.persons := rfl
@[simp] theorem resetLog_attLog : (resetLog s).attLog = [] := rfl
@[simp] theorem resetLog_readCursor : (resetLog s).readCursor = 0 := rfl
@[simp] theorem resetLog_workType : (resetLog s).workType = s.workType := rfl
@[simp] theorem resetLog_protocolMode : (resetLog s).protocolMode = s.protocolMode := rfl
@[simp] theorem resetLog_ridReg : (resetLog s).ridReg = s.ridReg := rfl
@[simp] theorem resetLog_rndEn : (resetLog s).rndEn = s.rndEn := rfl
@[simp] theorem resetLog_rlogEn : (resetLog s).rlogEn = s.rlogEn := rfl
@[simp] theorem resetLog_rxSt : (resetLog s).rxSt = s.rxSt := rfl
@[simp] theorem resetLog_rxBuf : (resetLog s).rxBuf = s.rxBuf := rfl
@[simp] theorem resetLog_rxRem : (resetLog s).rxRem = s.rxRem := rfl
@[simp] theorem resetLog_txQ : (resetLog s).txQ = s.txQ := rfl
@[simp] theorem resetLog_live : (resetLog s).live = s.live := rfl
@[simp] theorem resetLog_sched : (resetLog s).sched = s.sched := rfl
@[simp] theorem resetLog_rxIn : (resetLog s).rxIn = s.rxIn := rfl
@[simp] theorem resetLog_rndIn : (resetLog s).rndIn = s.rndIn := rfl
@[simp] theorem resetLog_draws : (resetLog s).draws = s.draws := rfl
@[simp] theorem resetLog_rtcIn : (resetLog s).rtcIn = s.rtcIn := rfl
@[simp] theorem resetLog_samples : (resetLog s).samples = s.samples := rfl
@[simp] theorem resetLog_txOut : (resetLog s).txOut = s.txOut := rfl
@[simp] theorem resetLog_evt : (resetLog s).evt = s.evt := rfl
@[simp] theorem resetLog_acks : (resetLog s).acks = s.acks := rfl

/-! ### `rndDrawn` -/

@[simp] theorem rndDrawn_persons : (rndDrawn s).persons = s.persons := rfl
@[simp] theorem rndDrawn_attLog : (rndDrawn s).attLog = s.attLog := rfl
@[simp] theorem rndDrawn_readCursor : (rndDrawn s).readCursor = s.readCursor := rfl
@[simp] theorem rndDrawn_workType : (rndDrawn s).workType = s.workType := rfl
@[simp] theorem rndDrawn_protocolMode : (rndDrawn s).protocolMode = s.protocolMode := rfl
@[simp] theorem rndDrawn_ridReg : (rndDrawn s).ridReg = s.ridReg := rfl
@[simp] theorem rndDrawn_rndEn : (rndDrawn s).rndEn = s.rndEn := rfl
@[simp] theorem rndDrawn_rlogEn : (rndDrawn s).rlogEn = s.rlogEn := rfl
@[simp] theorem rndDrawn_rxSt : (rndDrawn s).rxSt = s.rxSt := rfl
@[simp] theorem rndDrawn_rxBuf : (rndDrawn s).rxBuf = s.rxBuf := rfl
@[simp] theorem rndDrawn_rxRem : (rndDrawn s).rxRem = s.rxRem := rfl
@[simp] theorem rndDrawn_txQ : (rndDrawn s).txQ = s.txQ := rfl
@[simp] theorem rndDrawn_live : (rndDrawn s).live = s.live := rfl
@[simp] theorem rndDrawn_sched : (rndDrawn s).sched = s.sched := rfl
@[simp] theorem rndDrawn_rxIn : (rndDrawn s).rxIn = s.rxIn := rfl
@[simp] theorem rndDrawn_rndIn : (rndDrawn s).rndIn = s.rndIn.tail := rfl
@[simp] theorem rndDrawn_draws : (rndDrawn s).draws = s.draws + 1 := rfl
@[simp] theorem rndDrawn_rtcIn : (rndDrawn s).rtcIn = s.rtcIn := rfl
@[simp] theorem rndDrawn_samples : (rndDrawn s).samples = s.samples := rfl
@[simp] theorem rndDrawn_txOut : (rndDrawn s).txOut = s.txOut := rfl
@[simp] theorem rndDrawn_evt : (rndDrawn s).evt = s.evt := rfl
@[simp] theorem rndDrawn_acks : (rndDrawn s).acks = s.acks := rfl

/-! ### `rtcSampled` -/

@[simp] theorem rtcSampled_persons : (rtcSampled s).persons = s.persons := rfl
@[simp] theorem rtcSampled_attLog : (rtcSampled s).attLog = s.attLog := rfl
@[simp] theorem rtcSampled_readCursor : (rtcSampled s).readCursor = s.readCursor := rfl
@[simp] theorem rtcSampled_workType : (rtcSampled s).workType = s.workType := rfl
@[simp] theorem rtcSampled_protocolMode : (rtcSampled s).protocolMode = s.protocolMode := rfl
@[simp] theorem rtcSampled_ridReg : (rtcSampled s).ridReg = s.ridReg := rfl
@[simp] theorem rtcSampled_rndEn : (rtcSampled s).rndEn = s.rndEn := rfl
@[simp] theorem rtcSampled_rlogEn : (rtcSampled s).rlogEn = s.rlogEn := rfl
@[simp] theorem rtcSampled_rxSt : (rtcSampled s).rxSt = s.rxSt := rfl
@[simp] theorem rtcSampled_rxBuf : (rtcSampled s).rxBuf = s.rxBuf := rfl
@[simp] theorem rtcSampled_rxRem : (rtcSampled s).rxRem = s.rxRem := rfl
@[simp] theorem rtcSampled_txQ : (rtcSampled s).txQ = s.txQ := rfl
@[simp] theorem rtcSampled_live : (rtcSampled s).live = s.live := rfl
@[simp] theorem rtcSampled_sched : (rtcSampled s).sched = s.sched := rfl
@[simp] theorem rtcSampled_rxIn : (rtcSampled s).rxIn = s.rxIn := rfl
@[simp] theorem rtcSampled_rndIn : (rtcSampled s).rndIn = s.rndIn := rfl
@[simp] theorem rtcSampled_draws : (rtcSampled s).draws = s.draws := rfl
@[simp] theorem rtcSampled_rtcIn : (rtcSampled s).rtcIn = s.rtcIn.tail := rfl
@[simp] theorem rtcSampled_samples : (rtcSampled s).samples = s.samples + 1 := rfl
@[simp] theorem rtcSampled_txOut : (rtcSampled s).txOut = s.txOut := rfl
@[simp] theorem rtcSampled_evt : (rtcSampled s).evt = s.evt := rfl
@[simp] theorem rtcSampled_acks : (rtcSampled s).acks = s.acks := rfl

/-! ### `noresp` -/

@[simp] theorem noresp_persons : (noresp s).persons = s.persons := rfl
@[simp] theorem noresp_attLog : (noresp s).attLog = s.attLog := rfl
@[simp] theorem noresp_readCursor : (noresp s).readCursor = s.readCursor := rfl
@[simp] theorem noresp_workType : (noresp s).workType = s.workType := rfl
@[simp] theorem noresp_protocolMode : (noresp s).protocolMode = s.protocolMode := rfl
@[simp] theorem noresp_ridReg : (noresp s).ridReg = s.ridReg := rfl
@[simp] theorem noresp_rndEn : (noresp s).rndEn = s.rndEn := rfl
@[simp] theorem noresp_rlogEn : (noresp s).rlogEn = s.rlogEn := rfl
@[simp] theorem noresp_rxSt : (noresp s).rxSt = .hunt := rfl
@[simp] theorem noresp_rxBuf : (noresp s).rxBuf = s.rxBuf := rfl
@[simp] theorem noresp_rxRem : (noresp s).rxRem = s.rxRem := rfl
@[simp] theorem noresp_txQ : (noresp s).txQ = s.txQ := rfl
@[simp] theorem noresp_live : (noresp s).live = s.live := rfl
@[simp] theorem noresp_sched : (noresp s).sched = s.sched := rfl
@[simp] theorem noresp_rxIn : (noresp s).rxIn = s.rxIn := rfl
@[simp] theorem noresp_rndIn : (noresp s).rndIn = s.rndIn := rfl
@[simp] theorem noresp_draws : (noresp s).draws = s.draws := rfl
@[simp] theorem noresp_rtcIn : (noresp s).rtcIn = s.rtcIn := rfl
@[simp] theorem noresp_samples : (noresp s).samples = s.samples := rfl
@[simp] theorem noresp_txOut : (noresp s).txOut = s.txOut := rfl
@[simp] theorem noresp_evt : (noresp s).evt = s.evt := rfl
@[simp] theorem noresp_acks : (noresp s).acks = s.acks := rfl

/-! ### `frameError` -/

@[simp] theorem frameError_persons (c : FrameError) : (frameError c s).persons = s.persons := rfl
@[simp] theorem frameError_attLog (c : FrameError) : (frameError c s).attLog = s.attLog := rfl
@[simp] theorem frameError_readCursor (c : FrameError) : (frameError c s).readCursor = s.readCursor := rfl
@[simp] theorem frameError_workType (c : FrameError) : (frameError c s).workType = s.workType := rfl
@[simp] theorem frameError_protocolMode (c : FrameError) : (frameError c s).protocolMode = s.protocolMode := rfl
@[simp] theorem frameError_ridReg (c : FrameError) : (frameError c s).ridReg = s.ridReg := rfl
@[simp] theorem frameError_rndEn (c : FrameError) : (frameError c s).rndEn = s.rndEn := rfl
@[simp] theorem frameError_rlogEn (c : FrameError) : (frameError c s).rlogEn = s.rlogEn := rfl
@[simp] theorem frameError_rxSt (c : FrameError) : (frameError c s).rxSt = .hunt := rfl
@[simp] theorem frameError_rxBuf (c : FrameError) : (frameError c s).rxBuf = [] := rfl
@[simp] theorem frameError_rxRem (c : FrameError) : (frameError c s).rxRem = 0 := rfl
@[simp] theorem frameError_txQ (c : FrameError) : (frameError c s).txQ = s.txQ := rfl
@[simp] theorem frameError_live (c : FrameError) : (frameError c s).live = s.live := rfl
@[simp] theorem frameError_sched (c : FrameError) : (frameError c s).sched = s.sched := rfl
@[simp] theorem frameError_rxIn (c : FrameError) : (frameError c s).rxIn = s.rxIn := rfl
@[simp] theorem frameError_rndIn (c : FrameError) : (frameError c s).rndIn = s.rndIn := rfl
@[simp] theorem frameError_draws (c : FrameError) : (frameError c s).draws = s.draws := rfl
@[simp] theorem frameError_rtcIn (c : FrameError) : (frameError c s).rtcIn = s.rtcIn := rfl
@[simp] theorem frameError_samples (c : FrameError) : (frameError c s).samples = s.samples := rfl
@[simp] theorem frameError_txOut (c : FrameError) : (frameError c s).txOut = s.txOut := rfl
@[simp] theorem frameError_evt (c : FrameError) : (frameError c s).evt = s.evt ++ [.frameError c] := rfl
@[simp] theorem frameError_acks (c : FrameError) : (frameError c s).acks = s.acks := rfl

/-! ### `linkReset` -/

@[simp] theorem linkReset_persons : (linkReset s).persons = s.persons := rfl
@[simp] theorem linkReset_attLog : (linkReset s).attLog = s.attLog := rfl
@[simp] theorem linkReset_readCursor : (linkReset s).readCursor = s.readCursor := rfl
@[simp] theorem linkReset_workType : (linkReset s).workType = s.workType := rfl
@[simp] theorem linkReset_protocolMode : (linkReset s).protocolMode = s.protocolMode := rfl
@[simp] theorem linkReset_ridReg : (linkReset s).ridReg = s.ridReg := rfl
@[simp] theorem linkReset_rndEn : (linkReset s).rndEn = s.rndEn := rfl
@[simp] theorem linkReset_rlogEn : (linkReset s).rlogEn = s.rlogEn := rfl
@[simp] theorem linkReset_rxSt : (linkReset s).rxSt = .hunt := rfl
@[simp] theorem linkReset_rxBuf : (linkReset s).rxBuf = [] := rfl
@[simp] theorem linkReset_rxRem : (linkReset s).rxRem = 0 := rfl
@[simp] theorem linkReset_txQ : (linkReset s).txQ = [] := rfl
@[simp] theorem linkReset_live : (linkReset s).live = s.live := rfl
@[simp] theorem linkReset_sched : (linkReset s).sched = s.sched := rfl
@[simp] theorem linkReset_rxIn : (linkReset s).rxIn = s.rxIn := rfl
@[simp] theorem linkReset_rndIn : (linkReset s).rndIn = s.rndIn := rfl
@[simp] theorem linkReset_draws : (linkReset s).draws = s.draws := rfl
@[simp] theorem linkReset_rtcIn : (linkReset s).rtcIn = s.rtcIn := rfl
@[simp] theorem linkReset_samples : (linkReset s).samples = s.samples := rfl
@[simp] theorem linkReset_txOut : (linkReset s).txOut = s.txOut := rfl
@[simp] theorem linkReset_evt : (linkReset s).evt = s.evt := rfl
@[simp] theorem linkReset_acks : (linkReset s).acks = s.acks := rfl

/-! ### `answered` -/

@[simp] theorem answered_persons (P : Bytes) : (answered P s).persons = s.persons := rfl
@[simp] theorem answered_attLog (P : Bytes) : (answered P s).attLog = s.attLog := rfl
@[simp] theorem answered_readCursor (P : Bytes) : (answered P s).readCursor = s.readCursor := rfl
@[simp] theorem answered_workType (P : Bytes) : (answered P s).workType = s.workType := rfl
@[simp] theorem answered_protocolMode (P : Bytes) : (answered P s).protocolMode = s.protocolMode := rfl
@[simp] theorem answered_ridReg (P : Bytes) : (answered P s).ridReg = s.ridReg := rfl
@[simp] theorem answered_rndEn (P : Bytes) : (answered P s).rndEn = s.rndEn := rfl
@[simp] theorem answered_rlogEn (P : Bytes) : (answered P s).rlogEn = s.rlogEn := rfl
@[simp] theorem answered_rxSt (P : Bytes) : (answered P s).rxSt = .txb := rfl
@[simp] theorem answered_rxBuf (P : Bytes) : (answered P s).rxBuf = s.rxBuf := rfl
@[simp] theorem answered_rxRem (P : Bytes) : (answered P s).rxRem = s.rxRem := rfl
@[simp] theorem answered_txQ (P : Bytes) : (answered P s).txQ = frameBytes P s.ridReg := rfl
@[simp] theorem answered_live (P : Bytes) : (answered P s).live = s.live := rfl
@[simp] theorem answered_sched (P : Bytes) : (answered P s).sched = s.sched := rfl
@[simp] theorem answered_rxIn (P : Bytes) : (answered P s).rxIn = s.rxIn := rfl
@[simp] theorem answered_rndIn (P : Bytes) : (answered P s).rndIn = s.rndIn := rfl
@[simp] theorem answered_draws (P : Bytes) : (answered P s).draws = s.draws := rfl
@[simp] theorem answered_rtcIn (P : Bytes) : (answered P s).rtcIn = s.rtcIn := rfl
@[simp] theorem answered_samples (P : Bytes) : (answered P s).samples = s.samples := rfl
@[simp] theorem answered_txOut (P : Bytes) : (answered P s).txOut = s.txOut := rfl
@[simp] theorem answered_evt (P : Bytes) : (answered P s).evt = s.evt := rfl
@[simp] theorem answered_acks (P : Bytes) : (answered P s).acks = s.acks := rfl

/-! ### `logReceived` -/

@[simp] theorem logReceived_persons (id : Byte) (prm : Bytes) : (logReceived id prm s).persons = s.persons := by unfold logReceived; split <;> rfl
@[simp] theorem logReceived_attLog (id : Byte) (prm : Bytes) : (logReceived id prm s).attLog = s.attLog := by unfold logReceived; split <;> rfl
@[simp] theorem logReceived_readCursor (id : Byte) (prm : Bytes) : (logReceived id prm s).readCursor = s.readCursor := by unfold logReceived; split <;> rfl
@[simp] theorem logReceived_workType (id : Byte) (prm : Bytes) : (logReceived id prm s).workType = s.workType := by unfold logReceived; split <;> rfl
@[simp] theorem logReceived_protocolMode (id : Byte) (prm : Bytes) : (logReceived id prm s).protocolMode = s.protocolMode := by unfold logReceived; split <;> rfl
@[simp] theorem logReceived_ridReg (id : Byte) (prm : Bytes) : (logReceived id prm s).ridReg = s.ridReg := by unfold logReceived; split <;> rfl
@[simp] theorem logReceived_rndEn (id : Byte) (prm : Bytes) : (logReceived id prm s).rndEn = s.rndEn := by unfold logReceived; split <;> rfl
@[simp] theorem logReceived_rlogEn (id : Byte) (prm : Bytes) : (logReceived id prm s).rlogEn = s.rlogEn := by unfold logReceived; split <;> rfl
@[simp] theorem logReceived_rxSt (id : Byte) (prm : Bytes) : (logReceived id prm s).rxSt = s.rxSt := by unfold logReceived; split <;> rfl
@[simp] theorem logReceived_rxBuf (id : Byte) (prm : Bytes) : (logReceived id prm s).rxBuf = s.rxBuf := by unfold logReceived; split <;> rfl
@[simp] theorem logReceived_rxRem (id : Byte) (prm : Bytes) : (logReceived id prm s).rxRem = s.rxRem := by unfold logReceived; split <;> rfl
@[simp] theorem logReceived_txQ (id : Byte) (prm : Bytes) : (logReceived id prm s).txQ = s.txQ := by unfold logReceived; split <;> rfl
@[simp] theorem logReceived_live (id : Byte) (prm : Bytes) : (logReceived id prm s).live = s.live := by unfold logReceived; split <;> rfl
@[simp] theorem logReceived_sched (id : Byte) (prm : Bytes) : (logReceived id prm s).sched = s.sched := by unfold logReceived; split <;> rfl
@[simp] theorem logReceived_rxIn (id : Byte) (prm : Bytes) : (logReceived id prm s).rxIn = s.rxIn := by unfold logReceived; split <;> rfl
@[simp] theorem logReceived_rndIn (id : Byte) (prm : Bytes) : (logReceived id prm s).rndIn = s.rndIn := by unfold logReceived; split <;> rfl
@[simp] theorem logReceived_draws (id : Byte) (prm : Bytes) : (logReceived id prm s).draws = s.draws := by unfold logReceived; split <;> rfl
@[simp] theorem logReceived_rtcIn (id : Byte) (prm : Bytes) : (logReceived id prm s).rtcIn = s.rtcIn := by unfold logReceived; split <;> rfl
@[simp] theorem logReceived_samples (id : Byte) (prm : Bytes) : (logReceived id prm s).samples = s.samples := by unfold logReceived; split <;> rfl
@[simp] theorem logReceived_txOut (id : Byte) (prm : Bytes) : (logReceived id prm s).txOut = s.txOut := by unfold logReceived; split <;> rfl
@[simp] theorem logReceived_evt (id : Byte) (prm : Bytes) : (logReceived id prm s).evt = s.evt ++ if s.rlogEn then [.received id prm] else [] := by unfold logReceived; split <;> simp_all [emit]
@[simp] theorem logReceived_acks (id : Byte) (prm : Bytes) : (logReceived id prm s).acks = s.acks := by unfold logReceived; split <;> rfl

/-! ### `respond` -/

@[simp] theorem respond_persons (P : Bytes) : (respond P s).persons = s.persons := by unfold respond; split <;> rfl
@[simp] theorem respond_attLog (P : Bytes) : (respond P s).attLog = s.attLog := by unfold respond; split <;> rfl
@[simp] theorem respond_readCursor (P : Bytes) : (respond P s).readCursor = s.readCursor := by unfold respond; split <;> rfl
@[simp] theorem respond_workType (P : Bytes) : (respond P s).workType = s.workType := by unfold respond; split <;> rfl
@[simp] theorem respond_protocolMode (P : Bytes) : (respond P s).protocolMode = s.protocolMode := by unfold respond; split <;> rfl
@[simp] theorem respond_ridReg (P : Bytes) : (respond P s).ridReg = s.ridReg := by unfold respond; split <;> rfl
@[simp] theorem respond_rndEn (P : Bytes) : (respond P s).rndEn = s.rndEn := by unfold respond; split <;> rfl
@[simp] theorem respond_rlogEn (P : Bytes) : (respond P s).rlogEn = s.rlogEn := by unfold respond; split <;> rfl
@[simp] theorem respond_rxBuf (P : Bytes) : (respond P s).rxBuf = s.rxBuf := by unfold respond; split <;> rfl
@[simp] theorem respond_rxRem (P : Bytes) : (respond P s).rxRem = s.rxRem := by unfold respond; split <;> rfl
@[simp] theorem respond_live (P : Bytes) : (respond P s).live = s.live := by unfold respond; split <;> rfl
@[simp] theorem respond_sched (P : Bytes) : (respond P s).sched = s.sched := by unfold respond; split <;> rfl
@[simp] theorem respond_rxIn (P : Bytes) : (respond P s).rxIn = s.rxIn := by unfold respond; split <;> rfl
@[simp] theorem respond_rndIn (P : Bytes) : (respond P s).rndIn = s.rndIn := by unfold respond; split <;> rfl
@[simp] theorem respond_draws (P : Bytes) : (respond P s).draws = s.draws := by unfold respond; split <;> rfl
@[simp] theorem respond_rtcIn (P : Bytes) : (respond P s).rtcIn = s.rtcIn := by unfold respond; split <;> rfl
@[simp] theorem respond_samples (P : Bytes) : (respond P s).samples = s.samples := by unfold respond; split <;> rfl
@[simp] theorem respond_txOut (P : Bytes) : (respond P s).txOut = s.txOut := by unfold respond; split <;> rfl
@[simp] theorem respond_acks (P : Bytes) : (respond P s).acks = s.acks := by unfold respond; split <;> rfl

end

end Sys2Proof.Machine
end

