-- ==== Sys2Proof/Laws/Ops.lean ====
section
/-! SUPPORT. What each shared operation can do, once: the lemmas to cite instead of unfolding it. -/

namespace Sys2Proof.Machine

/-! ### How a command ends -/

/-- A payload that fits is loaded whole, and nothing else changes. -/
theorem respond_of_le {P : Bytes} (s : State) (h : P.length ≤ 252) : respond P s = answered P s := by
  simp [respond, frameEncode_of_le _ h, answered]

/-- A payload that does not fit gives the PAYLOAD_TOO_LONG event and no response. -/
theorem respond_of_gt {P : Bytes} (s : State) (h : 252 < P.length) :
    respond P s = { emit (.frameError .payloadTooLong) s with rxSt := .hunt } := by
  simp [respond, frameEncode_of_gt _ h]

/-- Everything `respond` can do. -/
theorem respond_cases (P : Bytes) (s : State) :
    (P.length ≤ 252 ∧ respond P s = answered P s) ∨
    (252 < P.length ∧ respond P s = { emit (.frameError .payloadTooLong) s with rxSt := .hunt }) := by
  by_cases h : P.length ≤ 252
  · exact .inl ⟨h, respond_of_le s h⟩
  · exact .inr ⟨by omega, respond_of_gt s (by omega)⟩

theorem logReceived_eq (id : Byte) (prm : Bytes) (s : State) :
    logReceived id prm s = { s with evt := s.evt ++ if s.rlogEn then [.received id prm] else [] } := by
  unfold logReceived
  cases s
  dsimp only
  split <;> simp_all [emit]

/-- The fixed responses fit. -/
@[simp] theorem respond_OK (s : State) : respond OK s = answered OK s := respond_of_le s (by decide)
@[simp] theorem respond_ERR (s : State) : respond ERR s = answered ERR s := respond_of_le s (by decide)
@[simp] theorem respond_PERR (s : State) : respond PERR s = answered PERR s := respond_of_le s (by decide)
@[simp] theorem respond_EMPTY_CARD (s : State) : respond EMPTY_CARD s = answered EMPTY_CARD s :=
  respond_of_le s (by decide)
@[simp] theorem respond_FILLED_CARD (s : State) : respond FILLED_CARD s = answered FILLED_CARD s :=
  respond_of_le s (by decide)

/-! ### Steps that are no instruction -/

theorem txByte_nil {s : State} (h : s.txQ = []) : txByte s = s := by
  unfold txByte; split <;> simp_all

theorem txByte_cons {s : State} {b : Byte} {q : Bytes} (h : s.txQ = b :: q) :
    txByte s = { s with txQ := q, txOut := s.txOut ++ [b], rxSt := if q = [] then .hunt else s.rxSt } := by
  unfold txByte; split <;> simp_all

/-- Everything INJECT can do (`10_state.md` R33). -/
theorem injectRecord_cases (ts : DateTime) (cid : Bytes) (s : State) :
    (injectable ts cid = false ∧ injectRecord ts cid s = acknowledge .bad s) ∨
    (injectable ts cid = true ∧ s.attLog.length = Config.maxLog ∧ injectRecord ts cid s = acknowledge .full s) ∨
    (injectable ts cid = true ∧ s.attLog.length ≠ Config.maxLog ∧
      injectRecord ts cid s = acknowledge .ok (logAppend ⟨ts, cid⟩ s)) := by
  unfold injectRecord logLen
  cases injectable ts cid
  · simp
  · by_cases h : s.attLog.length = Config.maxLog <;> simp [h]

/-! ### Fetch and dispatch -/

/-- Everything Dispatch can do (`41_dispatch.md` R140). -/
theorem dispatch_cases (P : Bytes) (s : State) :
    (P = [] ∧ dispatch P s = .next (noresp s)) ∨
    (∃ id prm, P = id :: prm ∧ decode P = .error (.unassigned id prm) ∧
      dispatch P s = .next (noresp (logReceived id prm s))) ∨
    (∃ i, decode P = .ok i ∧ dispatch P s = exec i (logReceived i.commandId i.params s)) := by
  cases P with
  | nil => exact .inl ⟨rfl, rfl⟩
  | cons id prm =>
    refine .inr ?_
    cases h : opcodeTable.find? (fun r => r.selects id) with
    | some r => exact .inr ⟨r.build prm, by simp [decode, h], by simp [dispatch, decode, h]⟩
    | none => exact .inl ⟨id, prm, rfl, by simp [decode, h], by simp [dispatch, decode, h]⟩

/-- Everything COMPLETE can do (`40_frame_codec.md` R117). -/
theorem complete_of_error {s : State} {c : FrameError} (h : frameAccept s.rxBuf = .error c) :
    complete s = .next (frameError c { s with rxBuf := [], rxRem := 0 }) := by
  simp [complete, h]

theorem complete_of_ok {s : State} {P : Bytes} (h : frameAccept s.rxBuf = .ok P) :
    complete s = dispatch P { s with rxBuf := [], rxRem := 0 } := by
  simp [complete, h]

/-! ### One step -/

theorem step_of_sched_nil {s : State} (h : s.sched = []) (hl : s.live = true) : step s = .next s := by
  simp [step, runNext, h, hl]

theorem step_of_sched_cons {s : State} {c : Choice} {later : List Choice} (h : s.sched = c :: later) :
    step s = runChoice c { s with sched := later } := by
  simp [step, runNext, h]

/-- An RX pick that is enabled takes the first held byte. -/
theorem rxPick_cons {s : State} {b : Byte} {held : Bytes} (hr : s.rxSt ≠ .txb) (h : s.rxIn = b :: held) :
    rxPick s = rxByte b { s with rxIn := held } := by
  simp [rxPick, rxReady, hr, h]

/-- An RX pick in TXB takes nothing (`40_frame_codec.md` R118). -/
theorem rxPick_txb {s : State} (h : s.rxSt = .txb) : rxPick s = .next s := by
  simp [rxPick, rxReady, h]

end Sys2Proof.Machine
end

