-- ==== Sys2Proof/Laws/PerInstr.lean ====
section
/-! SUPPORT. A statement about every instruction as syntax, one lemma per constructor. -/

namespace Sys2Proof.Laws

/-- The payload an instruction encodes to decodes to it (`30_encoding.md` R77, R87). -/
def PayloadRoundTrip.Statement (i : Instr) : Prop := decode (encode i) = .ok i

/-- The case split behind every lemma below, done once. -/
theorem decode_encode (i : Instr) : decode (encode i) = .ok i := by
  cases i <;> simp [decode, encode, Instr.commandId, Instr.params, opcodeTable, OpcodeRow.selects]

theorem PayloadRoundTrip.ping (prm : Bytes) : PayloadRoundTrip.Statement (.ping prm) := decode_encode _

theorem PayloadRoundTrip.readCard (prm : Bytes) : PayloadRoundTrip.Statement (.readCard prm) := decode_encode _

theorem PayloadRoundTrip.accessEvent (prm : Bytes) : PayloadRoundTrip.Statement (.accessEvent prm) := decode_encode _

theorem PayloadRoundTrip.checkTime (prm : Bytes) : PayloadRoundTrip.Statement (.checkTime prm) := decode_encode _

theorem PayloadRoundTrip.getTime (prm : Bytes) : PayloadRoundTrip.Statement (.getTime prm) := decode_encode _

theorem PayloadRoundTrip.setWorkType (prm : Bytes) : PayloadRoundTrip.Statement (.setWorkType prm) := decode_encode _

theorem PayloadRoundTrip.addPerson (prm : Bytes) : PayloadRoundTrip.Statement (.addPerson prm) := decode_encode _

theorem PayloadRoundTrip.clearPersons (prm : Bytes) : PayloadRoundTrip.Statement (.clearPersons prm) := decode_encode _

theorem PayloadRoundTrip.delPerson (prm : Bytes) : PayloadRoundTrip.Statement (.delPerson prm) := decode_encode _

theorem PayloadRoundTrip.mifare52 (prm : Bytes) : PayloadRoundTrip.Statement (.mifare52 prm) := decode_encode _

theorem PayloadRoundTrip.mifare54 (prm : Bytes) : PayloadRoundTrip.Statement (.mifare54 prm) := decode_encode _

theorem PayloadRoundTrip.mifare55 (prm : Bytes) : PayloadRoundTrip.Statement (.mifare55 prm) := decode_encode _

theorem PayloadRoundTrip.mifare56 (prm : Bytes) : PayloadRoundTrip.Statement (.mifare56 prm) := decode_encode _

theorem PayloadRoundTrip.mifare58 (prm : Bytes) : PayloadRoundTrip.Statement (.mifare58 prm) := decode_encode _

theorem PayloadRoundTrip.mifare59 (prm : Bytes) : PayloadRoundTrip.Statement (.mifare59 prm) := decode_encode _

theorem PayloadRoundTrip.mifare62 (prm : Bytes) : PayloadRoundTrip.Statement (.mifare62 prm) := decode_encode _

theorem PayloadRoundTrip.mifare63 (prm : Bytes) : PayloadRoundTrip.Statement (.mifare63 prm) := decode_encode _

theorem PayloadRoundTrip.mifare70 (prm : Bytes) : PayloadRoundTrip.Statement (.mifare70 prm) := decode_encode _

theorem PayloadRoundTrip.mifare71 (prm : Bytes) : PayloadRoundTrip.Statement (.mifare71 prm) := decode_encode _

theorem PayloadRoundTrip.setProtocolMode (prm : Bytes) : PayloadRoundTrip.Statement (.setProtocolMode prm) := decode_encode _

theorem PayloadRoundTrip.ackLog (prm : Bytes) : PayloadRoundTrip.Statement (.ackLog prm) := decode_encode _

theorem PayloadRoundTrip.personCount (prm : Bytes) : PayloadRoundTrip.Statement (.personCount prm) := decode_encode _

theorem PayloadRoundTrip.logStatus (prm : Bytes) : PayloadRoundTrip.Statement (.logStatus prm) := decode_encode _

theorem PayloadRoundTrip.clearLog (prm : Bytes) : PayloadRoundTrip.Statement (.clearLog prm) := decode_encode _

end Sys2Proof.Laws
end

