-- ==== Sys2Proof/Tests/Slice0.lean ====
section
/-! SUPPORT. Our own tests. Expected values are the spec's: the frames of the Example lines of `42_commands.md` and the
vectors of `95_test_vectors.md` (rows named in the comments). The witnesses at the end show, for each statement with
hypotheses, a concrete case that meets them. -/

namespace Sys2Proof.Tests

open Sys2Proof Sys2Proof.Machine

/-! ### WellFormed smoke test -/

theorem test_wf_refuses_252_params : (Instr.ping (List.replicate 252 0)).wf = false := by
  rw [Instr.wf, Instr.params, List.length_replicate]; decide
theorem test_wf_accepts_251_params : (Instr.delPerson (List.replicate 251 0xFF)).wf = true := by
  rw [Instr.wf, Instr.params, List.length_replicate]; decide

/-! ### Decoding: the frames the spec writes out -/

/-- The instruction a frame carries. -/
def frameInstr (B : Bytes) : Option Instr :=
  match frameAccept B with
  | .ok P => match decode P with
    | .ok i => some i
    | .error _ => none
  | .error _ => none

/-- The frame error a span is dropped with. -/
def frameFault (B : Bytes) : Option FrameError :=
  match frameAccept B with
  | .ok _ => none
  | .error c => some c

/-- R170. -/
theorem test_decode_ping :
    frameInstr [0x02, 0x96, 0xFF, 0x04, 0x0A, 0x36, 0x35, 0x03] =
      some (.ping []) := by decide
/-- R171. -/
theorem test_decode_readCard :
    frameInstr [0x02, 0x96, 0xFF, 0x04, 0x0B, 0x36, 0x34, 0x03] =
      some (.readCard []) := by decide
/-- L2.5 row 4. -/
theorem test_decode_accessEvent :
    frameInstr [0x02, 0x96, 0xFF, 0x05, 0x11, 0x2D, 0x35, 0x32, 0x03] =
      some (.accessEvent [0x2D]) := by decide
/-- L2.5 row 12. -/
theorem test_decode_checkTime :
    frameInstr [0x02, 0x96, 0xFF, 0x12, 0x15, 0x31, 0x35, 0x33, 0x30, 0x34, 0x35, 0x30, 0x33, 0x30, 0x33, 0x30, 0x31,
      0x32, 0x34, 0x36, 0x44, 0x03] =
      some (.checkTime [0x31, 0x35, 0x33, 0x30, 0x34, 0x35, 0x30, 0x33, 0x30, 0x33, 0x30, 0x31, 0x32, 0x34]) := by decide
/-- R174. -/
theorem test_decode_getTime :
    frameInstr [0x02, 0x96, 0xFF, 0x04, 0x16, 0x37, 0x39, 0x03] =
      some (.getTime []) := by decide
/-- R175. -/
theorem test_decode_setWorkType :
    frameInstr [0x02, 0x96, 0xFF, 0x05, 0x18, 0x32, 0x34, 0x34, 0x03] =
      some (.setWorkType [0x32]) := by decide
/-- R176. -/
theorem test_decode_addPerson :
    frameInstr [0x02, 0x96, 0xFF, 0x18, 0x1F, 0x41, 0x42, 0x43, 0x44, 0x45, 0x46, 0x47, 0x48, 0x30, 0x31, 0x30, 0x31,
      0x30, 0x31, 0x32, 0x34, 0x4A, 0x4F, 0x48, 0x4E, 0x36, 0x30, 0x03] =
      some (.addPerson [0x41, 0x42, 0x43, 0x44, 0x45, 0x46, 0x47, 0x48, 0x30, 0x31, 0x30, 0x31, 0x30, 0x31, 0x32, 0x34,
        0x4A, 0x4F, 0x48, 0x4E]) := by decide
/-- R177. -/
theorem test_decode_clearPersons :
    frameInstr [0x02, 0x96, 0xFF, 0x04, 0x20, 0x34, 0x46, 0x03] =
      some (.clearPersons []) := by decide
/-- R178. -/
theorem test_decode_delPerson :
    frameInstr [0x02, 0x96, 0xFF, 0x0C, 0x21, 0x41, 0x42, 0x43, 0x44, 0x45, 0x46, 0x47, 0x48, 0x34, 0x45, 0x03] =
      some (.delPerson [0x41, 0x42, 0x43, 0x44, 0x45, 0x46, 0x47, 0x48]) := by decide
/-- R179. -/
theorem test_decode_mifare52 :
    frameInstr [0x02, 0x96, 0xFF, 0x04, 0x34, 0x35, 0x42, 0x03] =
      some (.mifare52 []) := by decide
/-- R180. -/
theorem test_decode_mifare54 :
    frameInstr [0x02, 0x96, 0xFF, 0x04, 0x36, 0x35, 0x39, 0x03] =
      some (.mifare54 []) := by decide
/-- R181. -/
theorem test_decode_mifare55 :
    frameInstr [0x02, 0x96, 0xFF, 0x04, 0x37, 0x35, 0x38, 0x03] =
      some (.mifare55 []) := by decide
/-- R182. -/
theorem test_decode_mifare56 :
    frameInstr [0x02, 0x96, 0xFF, 0x04, 0x38, 0x35, 0x37, 0x03] =
      some (.mifare56 []) := by decide
/-- R183. -/
theorem test_decode_mifare58 :
    frameInstr [0x02, 0x96, 0xFF, 0x04, 0x3A, 0x35, 0x35, 0x03] =
      some (.mifare58 []) := by decide
/-- R184. -/
theorem test_decode_mifare59 :
    frameInstr [0x02, 0x96, 0xFF, 0x04, 0x3B, 0x35, 0x34, 0x03] =
      some (.mifare59 []) := by decide
/-- R185. -/
theorem test_decode_mifare62 :
    frameInstr [0x02, 0x96, 0xFF, 0x04, 0x3E, 0x35, 0x31, 0x03] =
      some (.mifare62 []) := by decide
/-- R186. -/
theorem test_decode_mifare63 :
    frameInstr [0x02, 0x96, 0xFF, 0x04, 0x3F, 0x35, 0x30, 0x03] =
      some (.mifare63 []) := by decide
/-- R187. -/
theorem test_decode_mifare70 :
    frameInstr [0x02, 0x96, 0xFF, 0x04, 0x46, 0x32, 0x39, 0x03] =
      some (.mifare70 []) := by decide
/-- R188. -/
theorem test_decode_mifare71 :
    frameInstr [0x02, 0x96, 0xFF, 0x04, 0x47, 0x32, 0x38, 0x03] =
      some (.mifare71 []) := by decide
/-- R195. -/
theorem test_decode_setProtocolMode :
    frameInstr [0x02, 0x96, 0xFF, 0x05, 0x65, 0x31, 0x33, 0x41, 0x03] =
      some (.setProtocolMode [0x31]) := by decide
/-- R196. -/
theorem test_decode_ackLog :
    frameInstr [0x02, 0x96, 0xFF, 0x04, 0x6F, 0x30, 0x30, 0x03] =
      some (.ackLog []) := by decide
/-- R197. -/
theorem test_decode_personCount :
    frameInstr [0x02, 0x96, 0xFF, 0x04, 0xF8, 0x39, 0x37, 0x03] =
      some (.personCount []) := by decide
/-- R198. -/
theorem test_decode_logStatus :
    frameInstr [0x02, 0x96, 0xFF, 0x04, 0xF9, 0x39, 0x36, 0x03] =
      some (.logStatus []) := by decide
/-- R199. -/
theorem test_decode_clearLog :
    frameInstr [0x02, 0x96, 0xFF, 0x07, 0xFA, 0x44, 0x45, 0x4C, 0x44, 0x42, 0x03] =
      some (.clearLog [0x44, 0x45, 0x4C]) := by decide
/-- L1.13: unassigned ids decode to nothing. -/
theorem test_decode_unassigned : frameInstr [0x02, 0x96, 0xFF, 0x04, 0x63, 0x30, 0x43, 0x03] = none ∧
    decode [0x63] = .error (.unassigned 0x63 []) := ⟨by decide, by rfl⟩
theorem test_table_word : decodeTableWord 8 0x0B = some (.readCard []) := by decide

/-! ### The frame codec (L2.1, L2.2) -/

theorem test_missing_start : frameFault [0x96, 0xFF, 0x04, 0x6F, 0x30, 0x30, 0x03] = some .missingStart := by decide
theorem test_missing_end : frameFault [0x02, 0x96, 0xFF, 0x04, 0x0A, 0x36, 0x35] = some .missingEnd := by decide
theorem test_truncated_etx_before_length : frameFault [0x02, 0x03, 0xFF, 0x00] = some .truncated := by decide
theorem test_truncated_length_2 : frameFault [0x02, 0x96, 0xFF, 0x02, 0x41, 0x03] = some .truncated := by decide
theorem test_truncated_long_length :
    frameFault [0x02, 0x96, 0xFF, 0x05, 0x0A, 0x36, 0x35, 0x03] = some .truncated := by decide
theorem test_length_mismatch :
    frameFault [0x02, 0x96, 0xFF, 0x04, 0x0A, 0x36, 0x35, 0x03, 0x03] = some .lengthMismatch := by decide
theorem test_lowercase_checksum :
    frameFault [0x02, 0x96, 0xFF, 0x04, 0x20, 0x34, 0x66, 0x03] = some .checksumMismatch := by decide
theorem test_duplicated_stx :
    frameInstr [0x02, 0x02, 0x96, 0xFF, 0x04, 0x0A, 0x36, 0x35, 0x03] = some (.ping []) := by decide
theorem test_fill_unchecked :
    frameInstr [0x02, 0x96, 0x00, 0x04, 0x0A, 0x39, 0x41, 0x03] = some (.ping []) := by decide
theorem test_etx_in_payload : frameBytes [0x03] 0x96 = [0x02, 0x96, 0xFF, 0x04, 0x03, 0x36, 0x43, 0x03] := by decide

/-! ### Parsers and formatters (L2.4) -/

theorem test_hour_24 : parseHms [0x32, 0x34, 0x30, 0x30, 0x30, 0x30] 0 = none := by decide
theorem test_leap_2024 : parseDmy2 [0x32, 0x39, 0x30, 0x32, 0x32, 0x34] 0 = some ⟨29, 2, 2024⟩ := by decide
theorem test_no_leap_2023 : parseDmy2 [0x32, 0x39, 0x30, 0x32, 0x32, 0x33] 0 = none := by decide
theorem test_no_leap_1900 : parseDmy4 [0x32, 0x39, 0x30, 0x32, 0x31, 0x39, 0x30, 0x30] 0 = none := by decide
theorem test_year_0 : parseDmy4 [0x30, 0x31, 0x30, 0x31, 0x30, 0x30, 0x30, 0x30] 0 = none := by decide
theorem test_weekday_sunday : isoWeekday 2024 1 7 = 7 := by decide
theorem test_weekday_leap_day : isoWeekday 2024 2 29 = 4 := by decide
theorem test_weekday_march_2023 : isoWeekday 2023 3 1 = 3 := by decide
theorem test_dec_pads : dec 1 5 = [0x30, 0x30, 0x30, 0x30, 0x31] := by decide
theorem test_dec_grows : dec 123 2 = [0x31, 0x32, 0x33] := by decide

/-- The numbers of R26, R29, R30, R221, R237. -/
theorem test_enumeration_numbers :
    [WorkType.online, .offline, .onOff].map (fun w => (workTypeBits w).toNat) = [1, 2, 3] ∧
    [ProtocolMode.client, .server].map (fun m => (protocolModeBits m).toNat) = [0, 1] ∧
    [RxState.hunt, .stx1, .rid, .ffb, .len, .body, .txb].map (fun r => (rxStateBits r).toNat) = [0, 1, 2, 3, 4, 5, 6] ∧
    [none, some FrameError.missingStart, some .missingEnd, some .truncated, some .checksumMismatch,
      some .lengthMismatch, some .payloadTooLong].map (fun c => (frameErrorCode c).toNat) = [0, 1, 2, 3, 4, 5, 6] ∧
    [InjAck.ok, .bad, .full].map injAckCode = [0, 1, 2] := by decide

/-! ### One step per command: what the response and the written field are -/

/-- The state after the step that receives the last byte of a frame carrying `P`. -/
def after (P : Bytes) (s : State) : Option State :=
  match step (withFrame P s) with
  | .next t => some t
  | _ => none

/-- The response frame of that step. -/
def answer (P : Bytes) (s : State) : Option Bytes := (after P s).map State.txQ

/-- A record of 3 January 2024, 08:00:00, card "CARD7" (P2). -/
def record : Attendance := ⟨⟨2024, 1, 3, 8, 0, 0⟩, [0x43, 0x41, 0x52, 0x44, 0x37]⟩

/-- The person of L1.9. -/
def john : Person :=
  ⟨[0x41, 0x42, 0x43, 0x44, 0x45, 0x46, 0x47, 0x48], [0x30, 0x31], ⟨1, 1, 2024⟩, [0x4A, 0x4F, 0x48, 0x4E]⟩

def okFrame : Bytes := [0x02, 0x96, 0xFF, 0x04, 0x6F, 0x30, 0x30, 0x03]
def errFrame : Bytes := [0x02, 0x96, 0xFF, 0x04, 0x68, 0x30, 0x37, 0x03]
def perrFrame : Bytes := [0x02, 0x96, 0xFF, 0x04, 0x6E, 0x30, 0x31, 0x03]
def emptyCardFrame : Bytes := [0x02, 0x96, 0xFF, 0x06, 0x61, 0x30, 0x30, 0x30, 0x43, 0x03]

/-- L2.5 row 2: params ignored. -/
theorem test_ping : answer [0x0A, 0x6A, 0x75, 0x6E, 0x6B] State.reset = some okFrame := by decide
/-- P2: the pending record is answered, Offline too. -/
theorem test_readCard_entry : answer [0x0B] { State.reset with attLog := [record], workType := .offline } =
    some [0x02, 0x96, 0xFF, 0x23, 0x64, 0x30, 0x30, 0x30, 0x38, 0x30, 0x30, 0x30, 0x30, 0x30, 0x33, 0x30, 0x33, 0x30,
      0x31, 0x32, 0x34, 0x43, 0x41, 0x52, 0x44, 0x37, 0x30, 0x31, 0x30, 0x31, 0x30, 0x30, 0x30, 0x30, 0x30, 0x31, 0x30,
      0x31, 0x03] := by decide
/-- P3: random reads on, rnd = 1. -/
theorem test_readCard_filled : answer [0x0B] { State.reset with rndEn := true, rndIn := [true] } =
    some [0x02, 0x96, 0xFF, 0x0E, 0x62, 0x30, 0x30, 0x44, 0x33, 0x32, 0x45, 0x46, 0x34, 0x43, 0x46, 0x37, 0x30, 0x03] := by
  decide
/-- L2.5 row 9: hour 25 is still accepted, with no timestamp. -/
theorem test_accessEvent_malformed : (after [0x11, 0x2B, 0x32, 0x35, 0x33, 0x30, 0x34, 0x35, 0x30, 0x33, 0x30, 0x31, 0x32,
    0x30, 0x32, 0x34, 0x49, 0x44] State.reset).map (fun t => (t.txQ, t.evt)) =
    some (okFrame, [.accessGranted none []]) := by decide
/-- L2.5 row 10. -/
theorem test_accessEvent_perr : (after [0x11, 0x2A] State.reset).map (fun t => (t.txQ, t.evt)) =
    some (perrFrame, []) := by decide
/-- L2.5 row 16: the filler is not checked. -/
theorem test_checkTime_filler : answer [0x15, 0x31, 0x35, 0x33, 0x30, 0x34, 0x35, 0x31, 0x33, 0x30, 0x33, 0x30, 0x31, 0x32,
    0x34] State.reset = some okFrame := by decide
/-- L2.5 row 13: weekday digit 4 on a Wednesday. -/
theorem test_checkTime_weekday : answer [0x15, 0x31, 0x35, 0x33, 0x30, 0x34, 0x35, 0x30, 0x34, 0x30, 0x33, 0x30, 0x31, 0x32,
    0x34] State.reset = some errFrame := by decide
/-- L1.8, second row: Thursday 29 February 2024. -/
theorem test_getTime : answer [0x16] { State.reset with rtcIn := [⟨2024, 2, 29, 23, 59, 58⟩] } =
    some [0x02, 0x96, 0xFF, 0x12, 0x63, 0x32, 0x33, 0x35, 0x39, 0x35, 0x38, 0x30, 0x34, 0x32, 0x39, 0x30, 0x32, 0x32, 0x34,
      0x31, 0x31, 0x03] := by decide
/-- L2.5 rows 19 and 20. -/
theorem test_setWorkType : (after [0x18, 0x32] State.reset).map (fun t => (t.txQ, t.workType)) =
    some (okFrame, .offline) := by decide
theorem test_setWorkType_zero : (after [0x18, 0x30] State.reset).map (fun t => (t.txQ, t.workType)) =
    some (errFrame, .onOff) := by decide
/-- L1.9. -/
theorem test_addPerson : (after [0x1F, 0x41, 0x42, 0x43, 0x44, 0x45, 0x46, 0x47, 0x48, 0x30, 0x31, 0x30, 0x31, 0x30, 0x31,
    0x32, 0x34, 0x4A, 0x4F, 0x48, 0x4E] State.reset).map (fun t => (t.txQ, t.persons)) = some (okFrame, [john]) := by decide
/-- L2.5 row 26: 15 bytes. -/
theorem test_addPerson_short : answer [0x1F, 0x43, 0x41, 0x52, 0x44, 0x30, 0x30, 0x30, 0x31, 0x54, 0x31, 0x30, 0x31, 0x30,
    0x31, 0x32] State.reset = some errFrame := by decide
theorem test_clearPersons : (after [0x20] { State.reset with persons := [john] }).map (fun t => (t.txQ, t.persons)) =
    some (okFrame, []) := by decide
/-- L2.5 row 30: all duplicates go at once; another card id stays. -/
theorem test_delPerson : (after [0x21, 0x41, 0x42, 0x43, 0x44, 0x45, 0x46, 0x47, 0x48]
    { State.reset with persons := [john, { john with cardId := [0x5A] }, john] }).map (fun t => (t.txQ, t.persons)) =
    some (okFrame, [{ john with cardId := [0x5A] }]) := by decide
theorem test_mifare52 : answer [0x34] State.reset = some emptyCardFrame := by decide
theorem test_mifare_err : [0x36, 0x37, 0x38, 0x3A, 0x3B, 0x3E, 0x3F, 0x46, 0x47].map
    (fun id : Byte => answer [id] State.reset == some errFrame) = List.replicate 9 true := by decide
/-- L2.5 rows 47 and 48. -/
theorem test_setProtocolMode : (after [0x65, 0x31] State.reset).map (fun t => (t.txQ, t.protocolMode)) =
    some (okFrame, .server) := by decide
theorem test_setProtocolMode_two : answer [0x65, 0x32] State.reset = some errFrame := by decide
/-- P2: the cursor goes from 0 to 1, with no response. -/
theorem test_ackLog : (after [0x6F] { State.reset with attLog := [record] }).map
    (fun t => (t.txQ, t.readCursor, t.rxSt)) = some ([], 1, .hunt) := by decide
theorem test_ackLog_caught_up : (after [0x6F] { State.reset with attLog := [record], readCursor := 1 }).map
    (fun t => (t.txQ, t.readCursor)) = some ([], 1) := by decide
/-- L1.9. -/
theorem test_personCount : answer [0xF8] { State.reset with persons := [john] } =
    some [0x02, 0x96, 0xFF, 0x09, 0x7A, 0x30, 0x30, 0x30, 0x30, 0x31, 0x32, 0x39, 0x03] := by decide
/-- L2.6, third row of the second table: two records, cursor 1. -/
theorem test_logStatus : (answer [0xF9] { State.reset with attLog := [record, record], readCursor := 1 }).map
    (fun f => slice f 4 25) = some [0x7A, 0x30, 0x30, 0x30, 0x30, 0x30, 0x30, 0x30, 0x30, 0x30, 0x32, 0x30, 0x30, 0x30,
      0x30, 0x30, 0x30, 0x30, 0x30, 0x30, 0x31] := by decide
/-- L2.5 rows 54 and 57. -/
theorem test_clearLog : (after [0xFA, 0x44, 0x45, 0x4C] { State.reset with attLog := [record], readCursor := 1 }).map
    (fun t => (t.txQ, t.attLog, t.readCursor)) = some (okFrame, [], 0) := by decide
theorem test_clearLog_lowercase : answer [0xFA, 0x64, 0x65, 0x6C] State.reset = some errFrame := by decide
/-- L2.7, last row but one: RESET coerces in order. -/
theorem test_reset_coerces : (match step { State.reset with live := false, sched := [.reset ⟨1, false, false, 7, 5⟩] } with
    | .next t => some (t.workType, t.protocolMode, t.evt)
    | _ => none) =
    some (.onOff, .client, [.configCoerced .workType 7, .configCoerced .protocolMode 5]) := by decide

/-! ### Witnesses: a concrete case for the hypotheses of each statement -/

/-- A state in which one record is pending. -/
def pending : State := { State.reset with attLog := [⟨⟨2024, 1, 1, 0, 0, 0⟩, [0x41]⟩] }

theorem card_ok : attendanceOk ⟨⟨2024, 1, 1, 0, 0, 0⟩, [0x41]⟩ = true := by
  simp [attendanceOk, injectable, Config.maxAttCardId]; decide

theorem reset_good : BlockInv State.reset :=
  ⟨by decide, by simp [State.reset], by simp [State.reset], by simp [State.reset], by simp [State.reset], rfl,
    by decide, by decide, by decide⟩

/-- The boundary of the cursor: one record, cursor 0 pending; cursor 1 caught up. -/
theorem witness_ReadCardAnswersByCase :
    (pending.attLog[pending.readCursor.toNat]? = some ⟨⟨2024, 1, 1, 0, 0, 0⟩, [0x41]⟩ ∧
      attendanceOk ⟨⟨2024, 1, 1, 0, 0, 0⟩, [0x41]⟩ = true) ∧
    (let s := { pending with readCursor := 1, workType := .offline };
      s.attLog.length ≤ s.readCursor.toNat ∧ s.workType = .offline) ∧
    (let s := { pending with readCursor := 1, rndEn := true };
      s.attLog.length ≤ s.readCursor.toNat ∧ s.workType ≠ .offline ∧ s.rndEn = true) ∧
    (let s := { pending with readCursor := 1 };
      s.attLog.length ≤ s.readCursor.toNat ∧ s.workType ≠ .offline ∧ s.rndEn = false) :=
  ⟨⟨rfl, card_ok⟩, by decide, by decide, by decide⟩

/-- A card id one byte over the limit of 225, and a payload one byte over 252. -/
theorem witness_OverlongPayloadGivesNoResponse :
    252 < (List.replicate 253 (0 : Byte)).length ∧
    (let a : Attendance := ⟨⟨2024, 1, 1, 0, 0, 0⟩, List.replicate 226 0x41⟩
      let s := { State.reset with attLog := [a] };
      s.attLog[s.readCursor.toNat]? = some a ∧ 225 < a.cardId.length) := 
  ⟨by rw [List.length_replicate]; decide, rfl, by
    show 225 < (List.replicate 226 (0x41 : Byte)).length; rw [List.length_replicate]; decide⟩

/-- '+' with the shortest whole timestamp, '+' alone, '-', and empty params. -/
theorem witness_AccessEventAnswersBySign :
    (let prm : Bytes := [0x2B, 0x31, 0x35, 0x33, 0x30, 0x34, 0x35, 0x30, 0x33, 0x30, 0x31, 0x32, 0x30, 0x32, 0x34];
      prm.head? = some 0x2B ∧ parseHms prm 1 = some ⟨15, 30, 45⟩ ∧ parseDmy4 prm 7 = some ⟨3, 1, 2024⟩) ∧
    (([0x2B] : Bytes).head? = some 0x2B ∧ (parseHms [0x2B] 1 = none ∨ parseDmy4 [0x2B] 7 = none)) ∧
    ([0x2D] : Bytes).head? = some 0x2D ∧
    (([] : Bytes).head? ≠ some 0x2B ∧ ([] : Bytes).head? ≠ some 0x2D) := by decide

/-- 14 bytes with the right digit; 13 bytes; 14 bytes with hour 24; with 30 February; with the wrong digit. -/
theorem witness_CheckTimeComparesWeekday :
    (let prm : Bytes := [0x31, 0x35, 0x33, 0x30, 0x34, 0x35, 0x30, 0x33, 0x30, 0x33, 0x30, 0x31, 0x32, 0x34];
      prm.length = 14 ∧ parseHms prm 0 = some ⟨15, 30, 45⟩ ∧ parseDmy2 prm 8 = some ⟨3, 1, 2024⟩ ∧
        prm[7]? = some (BitVec.ofNat 8 (0x30 + isoWeekday 2024 1 3))) ∧
    (List.replicate 13 (0x31 : Byte)).length ≠ 14 ∧
    parseHms [0x32, 0x34, 0x30, 0x30, 0x30, 0x30] 0 = none ∧
    parseDmy2 [0x30, 0x30, 0x30, 0x30, 0x30, 0x30, 0x30, 0x33, 0x33, 0x30, 0x30, 0x32, 0x32, 0x34] 8 = none ∧
    (let prm : Bytes := [0x31, 0x35, 0x33, 0x30, 0x34, 0x35, 0x30, 0x34, 0x30, 0x33, 0x30, 0x31, 0x32, 0x34];
      parseDmy2 prm 8 = some ⟨3, 1, 2024⟩ ∧ prm[7]? ≠ some (BitVec.ofNat 8 (0x30 + isoWeekday 2024 1 3))) := by decide

theorem witness_GetTimeAnswersSampledClock :
    validDateTime (rtcNow { State.reset with rtcIn := [⟨9999, 12, 31, 23, 59, 59⟩] }) = true := by decide

theorem witness_SetWorkTypeStoresOneDigit :
    ([0x30] : Bytes) ≠ [0x31] ∧ ([0x30] : Bytes) ≠ [0x32] ∧ ([0x30] : Bytes) ≠ [0x33] := by decide

/-- 15 bytes; 16 bytes with no date; 16 bytes with a date, on a full roster and on an empty one. -/
theorem witness_AddPersonAppendsOrErrs :
    (List.replicate 15 (0x30 : Byte)).length < 16 ∧
    (16 ≤ (List.replicate 16 (0x30 : Byte)).length ∧ parseDmy2 (List.replicate 16 0x30) 10 = none) ∧
    (let prm : Bytes := List.replicate 10 0x41 ++ [0x30, 0x31, 0x30, 0x31, 0x32, 0x34];
      16 ≤ prm.length ∧ parseDmy2 prm 10 = some ⟨1, 1, 2024⟩) ∧
    ({ State.reset with persons := List.replicate Config.maxPersons john } : State).persons.length = Config.maxPersons ∧
    State.reset.persons.length ≠ Config.maxPersons :=
  ⟨by decide, by decide, by decide, by simp, by simp [State.reset, Config.maxPersons]⟩

theorem witness_SetProtocolModeStoresOneDigit : ([0x32] : Bytes) ≠ [0x30] ∧ ([0x32] : Bytes) ≠ [0x31] := by decide

/-- Cursor 0 of one record, and cursor 1 of one record. -/
theorem witness_AckLogAdvancesWhilePending :
    (pending.readCursor.toNat < pending.attLog.length ∧ pending.attLog.length ≤ 4294967295) ∧
    ({ pending with readCursor := 1 } : State).attLog.length ≤ ({ pending with readCursor := 1 } : State).readCursor.toNat := by
  decide

theorem witness_PersonCountAnswersFiveDigits :
    ({ State.reset with persons := List.replicate 99999 john } : State).persons.length ≤ 99999 :=
  Nat.le_of_eq List.length_replicate

theorem witness_LogStatusAnswersLengthAndCursor :
    ({ State.reset with attLog := List.replicate 4294967295 record } : State).attLog.length ≤ 4294967295 ∧
    BlockInv State.reset :=
  ⟨Nat.le_of_eq List.length_replicate, reset_good⟩

theorem witness_ClearLogOnExactDel : ([0x64, 0x65, 0x6C] : Bytes) ≠ [0x44, 0x45, 0x4C] := by decide

theorem witness_CommandFrame : exec (.clearPersons []) State.reset = .next (respond OK (rosterClear State.reset)) := rfl

/-- Each field written by one command, from a state in which the write changes it. -/
theorem witness_EachDeviceFieldHasItsCommands :
    (rosterClear { State.reset with persons := [john] }).persons ≠ [john] ∧ (resetLog pending).attLog ≠ pending.attLog ∧
    (after [0x6F] pending).map State.readCursor ≠ some pending.readCursor ∧
    (after [0x18, 0x31] State.reset).map State.workType ≠ some State.reset.workType ∧
    (after [0x65, 0x31] State.reset).map State.protocolMode ≠ some State.reset.protocolMode ∧
    (after [0x0B] { State.reset with rndEn := true, rndIn := [false] }).map State.draws ≠ some 0 ∧
    (after [0x16] { State.reset with rtcIn := [⟨2024, 1, 1, 0, 0, 0⟩] }).map State.samples ≠ some 0 := by decide

theorem witness_ErrorAnswerWritesNothing :
    exec (.mifare54 []) State.reset = .next (respond ERR State.reset) ∧ (respond ERR State.reset).rxSt = .txb ∧
    (respond ERR State.reset).txQ = frameBytes [0x68] State.reset.ridReg ∧
    exec (.accessEvent []) State.reset = .next (respond PERR State.reset) ∧ (respond PERR State.reset).rxSt = .txb ∧
    (respond PERR State.reset).txQ = frameBytes [0x6E] State.reset.ridReg :=
  ⟨rfl, by decide, by decide, rfl, by decide, by decide⟩

/-- A good state with a valid clock sample listed; exec answers in it. -/
theorem witness_OneAsciiResponseOrNone :
    let s := { State.reset with rtcIn := [⟨2024, 1, 1, 0, 0, 0⟩] }
    BlockInv s ∧ validDateTime (rtcNow s) = true ∧ exec (.ping []) s = .next (respond OK s) ∧
      exec (.ackLog []) s = .next (noresp s) :=
  ⟨⟨by decide, by simp [State.reset], by simp [State.reset], by simp [State.reset], by simp [State.reset], rfl, by decide,
    by decide, by decide⟩, by decide, rfl, rfl⟩

theorem witness_ReceivedEventComesFirst :
    ({ State.reset with rlogEn := true } : State).rlogEn = true ∧ State.reset.rlogEn = false ∧
    dispatch (encode (.ping [])) { State.reset with rlogEn := true } =
      .next (respond OK { State.reset with rlogEn := true, evt := [.received 10 []] }) ∧
    dispatch (encode (.accessEvent [0x2D])) State.reset =
      .next (respond OK { State.reset with evt := [.accessDenied] }) :=
  ⟨rfl, rfl, by rfl, by rfl⟩

theorem witness_SilentPayloadsChangeNothing : (12 : Byte).toNat ∉ [10, 11, 17, 21, 22, 24, 31, 32, 33, 52, 54, 55, 56,
  58, 59,
    62, 63, 70, 71, 101, 111, 248, 249, 250] := by decide

theorem witness_DecodedPayloadReencodes : decode [0x21, 0x41] = .ok (.delPerson [0x41]) := by rfl

theorem witness_InstructionFrameRoundTrip :
    (Instr.delPerson (List.replicate 251 0x03)).wf = true ∧ (0x03 : Byte) ≠ 0x02 :=
  ⟨by rw [Instr.wf, Instr.params, List.length_replicate]; decide, by decide⟩

theorem witness_DuplicatedStxIsTolerated : (List.replicate 252 (0x02 : Byte)).length ≤ 252 :=
  Nat.le_of_eq List.length_replicate

/-- One payload byte, at the first and at the last place that may change; the ReaderId; the 0xFF byte. -/
theorem witness_TamperedFrameFailsItsChecksum :
    ([0x0A] : Bytes).length ≤ 252 ∧ (0x96 : Byte) ≠ 0x02 ∧
    (4 ≤ 4 ∧ 4 < 4 + ([0x0A] : Bytes).length ∧ (frameBytes [0x0A] 0x96)[4]? ≠ some 0x2A) ∧
    ((0x97 : Byte) ≠ 0x02 ∧ (frameBytes [0x0A] 0x96)[1]? ≠ some 0x97) ∧
    (frameBytes [0x0A] 0x96)[2]? ≠ some 0x7F := by decide

theorem witness_ChecksumFollowsEveryFlip : 0 ≤ 1 ∧ 1 ≤ ([0x5A] : Bytes).length ∧ 0 ≤ 0 ∧ 0 < 1 := by decide

theorem witness_OkFrameIsAnAckLogFrame : (0x96 : Byte) ≠ 0x02 ∧
    (0x7A : Byte) ∈ ([0x68, 0x6E, 0x61, 0x62, 0x63, 0x64, 0x7A] : Bytes) := by decide

theorem witness_DecIsPaddedDecimal : 99999 < 10 ^ 5 := by decide

/-- The last valid day of all, and a leap day. -/
theorem witness_WeekdayAdvancesDayByDay : validDate 31 12 9999 = true ∧ validDate 29 2 2000 = true := by decide

theorem witness_EchoedTimeIsAccepted : validDateTime ⟨2099, 12, 31, 23, 59, 59⟩ = true ∧ 2000 ≤ 2099 ∧ 2099 ≤ 2099 := by
  decide

/-- A state that receives the byte `b` in framer state `r` with `n` bytes to come. -/
def receiving (r : RxState) (buf : Bytes) (n b : Byte) : State :=
  { State.reset with rxSt := r, rxBuf := buf, rxRem := n, rxIn := [b], sched := [.rx] }

/-- One state for each clause, bytes 0x02 and 0x03, 0 and 1 at the boundaries; the last counts down from 255 and from 1. -/
theorem witness_RxFollowsTheFramerTable :
    (∀ r buf n b, (receiving r buf n b).live = true ∧ (receiving r buf n b).sched = .rx :: [] ∧
      (receiving r buf n b).rxIn = b :: [] ∧ (receiving r buf n b).rxSt = r ∧ (receiving r buf n b).rxRem = n) ∧
    (0x02 : Byte) = 0x02 ∧ (0x03 : Byte) ≠ 0x02 ∧ (0 : Byte) = 0 ∧ (1 : Byte) ≠ 0 ∧ (255 : Byte) ≠ 1 ∧ (1 : Byte) = 1 :=
  ⟨fun _ _ _ _ => ⟨rfl, rfl, rfl, rfl, rfl⟩, by decide, by decide, by decide, by decide, by decide, by decide⟩

theorem witness_CompleteDropsOrDispatches :
    frameAccept [0x02, 0x96, 0xFF, 0x04, 0x0A, 0x36, 0x36, 0x03] = .error .checksumMismatch ∧
    frameAccept [0x02, 0x96, 0xFF, 0x04, 0x0A, 0x36, 0x35, 0x03] = .ok [0x0A] := ⟨by rfl, by rfl⟩

theorem witness_StepRunsTheDecodedInstruction :
    let s := receiving .body [0x02, 0x96, 0xFF, 0x04, 0x0A, 0x36, 0x35] 1 0x03
    s.live = true ∧ s.sched = .rx :: [] ∧ s.rxIn = 0x03 :: [] ∧ s.rxSt = .body ∧ s.rxRem = 1 ∧
      frameAccept (s.rxBuf ++ [0x03]) = .ok [0x0A] ∧ decode [0x0A] = .ok (.ping []) :=
  ⟨rfl, rfl, rfl, rfl, rfl, by rfl, by rfl⟩

theorem witness_FramerDeliversTheInstruction :
    let f := frameBytes (encode (.ping [])) 0x96
    let s : State := { State.reset with rxIn := f ++ [], sched := List.replicate f.length Choice.rx ++ [] }
    (Instr.ping []).wf = true ∧ (0x96 : Byte) ≠ 0x02 ∧ s.live = true ∧ s.rxSt = .hunt ∧ s.rxBuf = [] ∧ s.rxRem = 0 ∧
      s.rxIn = f ++ [] ∧ s.sched = List.replicate f.length Choice.rx ++ [] :=
  ⟨by decide, by decide, rfl, rfl, rfl, rfl, rfl, rfl⟩

theorem witness_FetchWordRunsTheInstruction : 8 ≤ 2016 ∧ decodeTableWord 8 0xFA = some (.clearLog []) := by decide

theorem witness_TxSendsTheFirstByte :
    let s := { State.reset with rxSt := .txb, txQ := [0x02, 0x03], sched := [.tx] }
    s.live = true ∧ s.sched = .tx :: [] ∧ s.txQ = 0x02 :: [0x03] := ⟨rfl, rfl, rfl⟩

theorem witness_TxDrainsTheWholeResponse :
    let s := { State.reset with rxSt := .txb, txQ := [0x02, 0x03], sched := [.tx, .tx] }
    s.live = true ∧ s.txQ ≠ [] ∧ s.sched = List.replicate s.txQ.length .tx ++ [] := ⟨rfl, by decide, rfl⟩

theorem witness_DisabledPicksAndIdleKeepTheBlock :
    State.reset.live = true ∧ State.reset.sched = [] ∧
    (let s := { State.reset with sched := [.rx], rxSt := .txb, txQ := [0x02], rxIn := [0x02] };
      s.sched = .rx :: [] ∧ s.rxSt = .txb) ∧
    (let s := { State.reset with sched := [.rx] }; s.sched = .rx :: [] ∧ s.rxIn = []) ∧
    (let s := { State.reset with sched := [.tx] }; s.sched = .tx :: [] ∧ s.txQ = []) :=
  ⟨rfl, rfl, ⟨rfl, rfl⟩, ⟨rfl, rfl⟩, ⟨rfl, rfl⟩⟩

theorem witness_LinkResetKeepsTheDevice :
    let s := { State.reset with sched := [.linkReset], rxSt := .body, rxBuf := [0x02], rxRem := 4 }
    s.live = true ∧ s.sched = .linkReset :: [] := ⟨rfl, rfl⟩

/-- A bad record of each kind; a good one with the log full, and with the log empty. -/
theorem witness_InjectAppendsOrRefuses :
    validDateTime ⟨2024, 2, 30, 0, 0, 0⟩ = false ∧ ([] : Bytes).length < 1 ∧
    Config.maxAttCardId < (List.replicate (Config.maxAttCardId + 1) (0x41 : Byte)).length ∧
    (∃ c ∈ ([0x41, 0x1F] : Bytes), c.toNat < 0x20 ∨ 0x7E < c.toNat) ∧
    (∃ c ∈ ([0x7F] : Bytes), c.toNat < 0x20 ∨ 0x7E < c.toNat) ∧
    (¬ (validDateTime ⟨2024, 1, 1, 0, 0, 0⟩ = false ∨ ([0x7E] : Bytes).length < 1 ∨
        Config.maxAttCardId < ([0x7E] : Bytes).length ∨ ∃ c ∈ ([0x7E] : Bytes), c.toNat < 0x20 ∨ 0x7E < c.toNat) ∧
      ({ State.reset with attLog := List.replicate Config.maxLog record } : State).attLog.length = Config.maxLog ∧
      State.reset.attLog.length ≠ Config.maxLog) ∧
    (let s := { State.reset with sched := [.inject ⟨2024, 1, 1, 0, 0, 0⟩ [0x7E]] };
      s.live = true ∧ s.sched = .inject ⟨2024, 1, 1, 0, 0, 0⟩ [0x7E] :: []) := by
  refine ⟨by decide, by decide, by simp, by decide, by decide, ⟨?_, by simp, by simp [State.reset, Config.maxLog]⟩,
    rfl, rfl⟩
  rintro (h | h | h | h)
  · exact absurd h (by decide)
  · exact absurd h (by decide)
  · simp [Config.maxAttCardId] at h
  · exact absurd h (by decide)

/-- RESET before the first RESET, with both modes out of range; also for EveryResetIsGood. -/
theorem witness_ResetLoadsEveryField :
    ({ State.reset with live := false, sched := [.reset ⟨2, true, true, 0, 2⟩] } : State).sched =
      .reset ⟨2, true, true, 0, 2⟩ :: [] := rfl

theorem witness_NothingRunsBeforeTheFirstReset :
    let s := { State.reset with live := false, sched := [.rx] }
    s.live = false ∧ ∀ cfg later, s.sched ≠ .reset cfg :: later := ⟨rfl, by intro cfg later h; cases h⟩

/-- The same RESET pick serves here. -/
theorem witness_EveryResetIsGood :
    ({ State.reset with live := false, sched := [.reset ⟨2, true, true, 0, 2⟩] } : State).sched =
      .reset ⟨2, true, true, 0, 2⟩ :: [] := rfl

theorem witness_StepKeepsTheInvariant :
    BlockInv { State.reset with sched := [.rx], rxIn := [0x02] } ∧
    step { State.reset with sched := [.rx], rxIn := [0x02] } =
      .next { State.reset with rxSt := .stx1, rxBuf := [0x02] } :=
  ⟨⟨by decide, by simp [State.reset], by simp [State.reset], by simp [State.reset], by simp [State.reset], rfl, by decide,
    by decide, by decide⟩, rfl⟩

theorem witness_InvariantGivesTheSpecsList : BlockInv State.reset := reset_good

theorem witness_StepNeverStopsAfterReset : State.reset.live = true := rfl

theorem witness_DeviceChangesOnlyByCommandInjectReset :
    step { pending with sched := [.reset ⟨150, false, false, 3, 0⟩] } = .next State.reset ∧
    pending.attLog ≠ State.reset.attLog := ⟨rfl, by decide⟩

theorem witness_OnlyResetWritesTheLatches :
    step { State.reset with sched := [.linkReset] } = .next (linkReset State.reset) ∧
    ∀ cfg later, ({ State.reset with sched := [.linkReset] } : State).sched ≠ .reset cfg :: later :=
  ⟨rfl, by intro cfg later h; cases h⟩

theorem witness_BlockRaisesOnlyThreeFrameErrors :
    let s := { State.reset with rtcIn := [⟨2024, 1, 1, 0, 0, 0⟩] }
    BlockInv s ∧ validDateTime (rtcNow s) = true ∧ step s = .next s :=
  ⟨⟨by decide, by simp [State.reset], by simp [State.reset], by simp [State.reset], by simp [State.reset], rfl, by decide,
    by decide, by decide⟩, by decide, rfl⟩

/-- Two states that differ in a name, a date, a table and the protocol mode. -/
theorem witness_UnreadDataNeverShows :
    SameVisible { State.reset with persons := [john] }
      { State.reset with persons := [⟨john.cardId, [0, 0], ⟨31, 12, 2099⟩, []⟩], protocolMode := .server } ∧
    step { State.reset with persons := [john] } = .next { State.reset with persons := [john] } :=
  ⟨⟨rfl, rfl⟩, rfl⟩

end Sys2Proof.Tests
end

/-! ## What a command can do

`exec` has 24 arms and each ends the same two ways. Here every arm is read once: what it writes before it ends
(`Writes`), and how it ends (`Ends`). The facts about all commands below are facts about these two relations. -/

namespace Sys2Proof.Machine

/-- What the instruction writes before it ends, with the tests that let it (`42_commands.md` R170 to R199). -/
inductive Writes : Instr → State → State → Prop
  | nothing (i : Instr) (s : State) : Writes i s s
  | event (prm : Bytes) (e : Event) (s : State) : Writes (.accessEvent prm) s (emit e s)
  | draw (prm : Bytes) (s : State) (caughtUp : s.attLog.length ≤ s.readCursor.toNat)
      (notOffline : s.workType ≠ .offline) (randomOn : s.rndEn = true) : Writes (.readCard prm) s (rndDrawn s)
  | sample (prm : Bytes) (s : State) : Writes (.getTime prm) s (rtcSampled s)
  | workType (prm : Bytes) (w : WorkType) (s : State) : Writes (.setWorkType prm) s { s with workType := w }
  | protocolMode (prm : Bytes) (m : ProtocolMode) (s : State) :
      Writes (.setProtocolMode prm) s { s with protocolMode := m }
  | person (prm : Bytes) (p : Person) (s : State) (parsed : personParam prm = some p)
      (room : s.persons.length ≠ Config.maxPersons) : Writes (.addPerson prm) s (rosterAppend p s)
  | clearPersons (prm : Bytes) (s : State) : Writes (.clearPersons prm) s (rosterClear s)
  | delPerson (prm : Bytes) (s : State) : Writes (.delPerson prm) s (rosterRemoveAll prm s)
  | advance (prm : Bytes) (s : State) (waiting : s.readCursor.toNat < s.attLog.length) :
      Writes (.ackLog prm) s { s with readCursor := s.readCursor + 1 }
  | clearLog (prm : Bytes) (s : State) : Writes (.clearLog prm) s (resetLog s)

/-- How a command ends: with a response or silently (`41_dispatch.md` R141). -/
inductive Ends (u : State) : State → Prop
  | response (P : Bytes) : Ends u (respond P u)
  | silent : Ends u (noresp u)

/-- The instruction runs through: it writes what it may, and ends. -/
def Completes (i : Instr) (s : State) : Prop := ∃ u t, Writes i s u ∧ Ends u t ∧ exec i s = .next t

theorem Completes.of_respond {i : Instr} {s u : State} {P : Bytes} (hw : Writes i s u)
    (h : exec i s = .next (respond P u)) : Completes i s :=
  ⟨u, _, hw, .response P, h⟩

theorem Completes.of_noresp {i : Instr} {s u : State} (hw : Writes i s u) (h : exec i s = .next (noresp u)) :
    Completes i s :=
  ⟨u, _, hw, .silent, h⟩

theorem next_unique {o : Host.Outcome State Fault Refusal} {t t' : State} (h : o = .next t) (h' : o = .next t') :
    t = t' :=
  Host.Outcome.next.inj (h.symm.trans h')

/-! ### The arms that choose -/

theorem pendingRecord_eq_none {s : State} : pendingRecord s = none ↔ s.attLog.length ≤ s.readCursor.toNat := by
  simp [pendingRecord, logAt]

theorem readCard_completes (prm : Bytes) (s : State) : Completes (.readCard prm) s := by
  cases hp : pendingRecord s with
  | some a => exact .of_respond (.nothing _ s) (P := entryPayload a) (by simp [exec, execReadCard, hp])
  | none =>
    by_cases ho : s.workType = .offline
    · exact .of_respond (.nothing _ s) (P := EMPTY_CARD) (by simp [exec, execReadCard, hp, ho])
    · by_cases hr : s.rndEn = true
      · exact .of_respond (.draw prm s (pendingRecord_eq_none.mp hp) ho hr)
          (P := if rndNow s then FILLED_CARD else EMPTY_CARD) (by simp [exec, execReadCard, hp, ho, hr])
      · exact .of_respond (.nothing _ s) (P := EMPTY_CARD) (by simp [exec, execReadCard, hp, ho, hr])

theorem accessEvent_completes (prm : Bytes) (s : State) : Completes (.accessEvent prm) s := by
  by_cases hg : prm.head? = some 0x2B
  · exact .of_respond (.event prm (accessGrantedEvent prm) s) (P := OK) (by simp [exec, execAccessEvent, hg])
  · by_cases hd : prm.head? = some 0x2D
    · exact .of_respond (.event prm .accessDenied s) (P := OK) (by simp [exec, execAccessEvent, hd])
    · exact .of_respond (.nothing _ s) (P := PERR) (by simp only [exec, execAccessEvent, if_neg hg, if_neg hd])

theorem setWorkType_completes (prm : Bytes) (s : State) : Completes (.setWorkType prm) s := by
  cases hw : workTypeParam prm with
  | some w => exact .of_respond (.workType prm w s) (P := OK) (by simp [exec, execSetWorkType, hw])
  | none => exact .of_respond (.nothing _ s) (P := ERR) (by simp [exec, execSetWorkType, hw])

theorem setProtocolMode_completes (prm : Bytes) (s : State) : Completes (.setProtocolMode prm) s := by
  cases hm : protocolModeParam prm with
  | some m => exact .of_respond (.protocolMode prm m s) (P := OK) (by simp [exec, execSetProtocolMode, hm])
  | none => exact .of_respond (.nothing _ s) (P := ERR) (by simp [exec, execSetProtocolMode, hm])

theorem addPerson_completes (prm : Bytes) (s : State) : Completes (.addPerson prm) s := by
  cases hp : personParam prm with
  | none => exact .of_respond (.nothing _ s) (P := ERR) (by simp [exec, execAddPerson, hp])
  | some p =>
    by_cases hf : s.persons.length = Config.maxPersons
    · exact .of_respond (.nothing _ s) (P := ERR) (by simp [exec, execAddPerson, hp, rosterCount, hf])
    · exact .of_respond (.person prm p s hp hf) (P := OK) (by simp [exec, execAddPerson, hp, rosterCount, hf])

theorem ackLog_completes (prm : Bytes) (s : State) : Completes (.ackLog prm) s := by
  by_cases hl : s.readCursor.toNat < s.attLog.length
  · exact .of_noresp (.advance prm s hl) (by simp [exec, execAckLog, logLen, hl])
  · exact .of_noresp (.nothing _ s) (by simp [exec, execAckLog, logLen, hl])

theorem clearLog_completes (prm : Bytes) (s : State) : Completes (.clearLog prm) s := by
  cases hd : isDel prm with
  | true => exact .of_respond (.clearLog prm s) (P := OK) (by simp [exec, execClearLog, hd])
  | false => exact .of_respond (.nothing _ s) (P := ERR) (by simp [exec, execClearLog, hd])

/-- Everything a command can do. -/
theorem exec_completes (i : Instr) (s : State) : Completes i s := by
  cases i with
  | readCard prm => exact readCard_completes prm s
  | accessEvent prm => exact accessEvent_completes prm s
  | setWorkType prm => exact setWorkType_completes prm s
  | setProtocolMode prm => exact setProtocolMode_completes prm s
  | addPerson prm => exact addPerson_completes prm s
  | ackLog prm => exact ackLog_completes prm s
  | clearLog prm => exact clearLog_completes prm s
  | getTime prm => exact .of_respond (.sample prm s) rfl
  | clearPersons prm => exact .of_respond (.clearPersons prm s) rfl
  | delPerson prm => exact .of_respond (.delPerson prm s) rfl
  | ping _ | checkTime _ | personCount _ | logStatus _ | mifare52 _ | mifare54 _ | mifare55 _ | mifare56 _
  | mifare58 _ | mifare59 _ | mifare62 _ | mifare63 _ | mifare70 _ | mifare71 _ =>
    exact .of_respond (.nothing _ s) rfl

/-- A command that answers `t` wrote some `u` and ended from there. -/
theorem exec_eq_next {i : Instr} {s t : State} (h : exec i s = .next t) : ∃ u, Writes i s u ∧ Ends u t := by
  obtain ⟨u, t', hw, he, ht⟩ := exec_completes i s
  obtain rfl := next_unique h ht
  exact ⟨u, hw, he⟩

/-! ### What no command changes -/

theorem SameLatches.trans {s u t : State} (h : SameLatches s u) (k : SameLatches u t) : SameLatches s t :=
  ⟨k.ridReg.trans h.ridReg, k.rndEn.trans h.rndEn, k.rlogEn.trans h.rlogEn⟩

/-- What every command keeps: the latches, the receive buffer, the ports; and the events given out stay in front. -/
structure CommandKeeps (s t : State) : Prop extends SameLatches s t where
  rxBuf : t.rxBuf = s.rxBuf
  rxRem : t.rxRem = s.rxRem
  live : t.live = s.live
  sched : t.sched = s.sched
  rxIn : t.rxIn = s.rxIn
  txOut : t.txOut = s.txOut
  acks : t.acks = s.acks
  evt : s.evt <+: t.evt

theorem CommandKeeps.trans {s u t : State} (h : CommandKeeps s u) (k : CommandKeeps u t) : CommandKeeps s t :=
  ⟨h.toSameLatches.trans k.toSameLatches, k.rxBuf.trans h.rxBuf, k.rxRem.trans h.rxRem, k.live.trans h.live,
    k.sched.trans h.sched, k.rxIn.trans h.rxIn, k.txOut.trans h.txOut, k.acks.trans h.acks, h.evt.trans k.evt⟩

theorem Writes.keeps {i : Instr} {s u : State} (h : Writes i s u) : CommandKeeps s u := by
  cases h with
  | event prm e => exact ⟨⟨rfl, rfl, rfl⟩, rfl, rfl, rfl, rfl, rfl, rfl, rfl, List.prefix_append _ _⟩
  | _ => exact ⟨⟨rfl, rfl, rfl⟩, rfl, rfl, rfl, rfl, rfl, rfl, rfl, List.prefix_rfl⟩

theorem respond_evt_prefix (P : Bytes) (s : State) : s.evt <+: (respond P s).evt := by
  rcases respond_cases P s with ⟨-, h⟩ | ⟨-, h⟩ <;> simp [h]

theorem Ends.keeps {u t : State} (h : Ends u t) : CommandKeeps u t := by
  cases h with
  | response P => exact ⟨⟨by simp, by simp, by simp⟩, by simp, by simp, by simp, by simp, by simp, by simp, by simp,
      respond_evt_prefix P u⟩
  | silent => exact ⟨⟨rfl, rfl, rfl⟩, rfl, rfl, rfl, rfl, rfl, rfl, rfl, List.prefix_rfl⟩

theorem exec_keeps {i : Instr} {s t : State} (h : exec i s = .next t) : CommandKeeps s t := by
  obtain ⟨u, hw, he⟩ := exec_eq_next h
  exact hw.keeps.trans he.keeps

/-- Settles O17: what a command writes and how it ends both keep the fields of `CommandKeeps`, which are all the others. -/
theorem commandFrame : Obligations.CommandFrame := by
  unfold Obligations.CommandFrame
  intro i s t h
  obtain ⟨⟨hrid, hrnd, hrlog⟩, hbuf, hrem, hlive, hsched, hin, hout, hacks, hevt⟩ := exec_keeps h
  refine ⟨?_, hevt⟩
  cases t
  simp_all

/-! ### Which command writes which device field -/

/-- The end of a command writes the framer state, the queue and the events only. -/
theorem Ends.sameDevice {u t : State} (h : Ends u t) : SameDevice u t := by
  cases h with
  | response P => exact ⟨by simp, by simp, by simp, by simp, by simp⟩
  | silent => exact ⟨rfl, rfl, rfl, rfl, rfl⟩

theorem Ends.inputs {u t : State} (h : Ends u t) :
    t.draws = u.draws ∧ t.rndIn = u.rndIn ∧ t.samples = u.samples ∧ t.rtcIn = u.rtcIn := by
  cases h with
  | response P => simp
  | silent => exact ⟨rfl, rfl, rfl, rfl⟩

/-- Settles O18: the end writes none of these fields, and each way to write names its command. -/
theorem eachDeviceFieldHasItsCommands : Obligations.EachDeviceFieldHasItsCommands := by
  unfold Obligations.EachDeviceFieldHasItsCommands
  intro i s t h
  obtain ⟨u, hw, he⟩ := exec_eq_next h
  obtain ⟨hpersons, hlog, hcursor, hwork, hmode⟩ := he.sameDevice
  obtain ⟨hdraws, hrndIn, hsamples, hrtcIn⟩ := he.inputs
  rw [hpersons, hlog, hcursor, hwork, hmode, hdraws, hrndIn, hsamples, hrtcIn]
  cases hw with
  | draw prm s caughtUp notOffline randomOn => simp [caughtUp, notOffline, randomOn]
  | _ => simp

end Sys2Proof.Machine

/-! ## What a step can do

One case per framer state, one per pick. `INJECT` and `TX` have theirs in `Laws/Ops.lean`. -/

namespace Sys2Proof.Machine

/-! ### RX of one byte (`40_frame_codec.md` R112 to R116) -/

section
variable {s : State} (b : Byte)

theorem rxByte_hunt (h : s.rxSt = .hunt) :
    rxByte b s = .next (if b = STX then { s with rxBuf := [b], rxSt := .stx1 } else s) := by
  simp only [rxByte, h]

theorem rxByte_stx1 (h : s.rxSt = .stx1) :
    rxByte b s = .next { s with rxBuf := s.rxBuf ++ [b], rxSt := if b = STX then .rid else .ffb } := by
  simp only [rxByte, h]

theorem rxByte_rid (h : s.rxSt = .rid) :
    rxByte b s = .next { s with rxBuf := s.rxBuf ++ [b], rxSt := .ffb } := by
  simp only [rxByte, h]

theorem rxByte_ffb (h : s.rxSt = .ffb) :
    rxByte b s = .next { s with rxBuf := s.rxBuf ++ [b], rxSt := .len } := by
  simp only [rxByte, h]

theorem rxByte_len (h : s.rxSt = .len) :
    rxByte b s = if b = 0 then complete { s with rxBuf := s.rxBuf ++ [b] }
      else .next { s with rxBuf := s.rxBuf ++ [b], rxRem := b, rxSt := .body } := by
  simp only [rxByte, h]

theorem rxByte_body (h : s.rxSt = .body) :
    rxByte b s = if s.rxRem - 1 = 0 then complete { s with rxBuf := s.rxBuf ++ [b], rxRem := s.rxRem - 1 }
      else .next { s with rxBuf := s.rxBuf ++ [b], rxRem := s.rxRem - 1 } := by
  simp only [rxByte, h]

theorem rxByte_txb (h : s.rxSt = .txb) : rxByte b s = .next s := by
  simp only [rxByte, h]

/-- One byte moves the framer only, or completes the span. -/
theorem rxByte_cases (s : State) :
    (∃ buf n r, rxByte b s = .next { s with rxBuf := buf, rxRem := n, rxSt := r }) ∨
    (∃ buf n, rxByte b s = complete { s with rxBuf := buf, rxRem := n }) := by
  obtain ⟨r, hr⟩ : ∃ r, s.rxSt = r := ⟨_, rfl⟩
  cases r with
  | hunt =>
    rw [rxByte_hunt b hr]
    split
    · exact .inl ⟨_, s.rxRem, _, rfl⟩
    · exact .inl ⟨s.rxBuf, s.rxRem, s.rxSt, rfl⟩
  | stx1 => exact .inl ⟨_, s.rxRem, _, rxByte_stx1 b hr⟩
  | rid => exact .inl ⟨_, s.rxRem, _, rxByte_rid b hr⟩
  | ffb => exact .inl ⟨_, s.rxRem, _, rxByte_ffb b hr⟩
  | len =>
    rw [rxByte_len b hr]
    split
    · exact .inr ⟨_, s.rxRem, rfl⟩
    · exact .inl ⟨_, _, _, rfl⟩
  | body =>
    rw [rxByte_body b hr]
    split
    · exact .inr ⟨_, _, rfl⟩
    · exact .inl ⟨_, _, s.rxSt, rfl⟩
  | txb => exact .inl ⟨s.rxBuf, s.rxRem, s.rxSt, rxByte_txb b hr⟩

end

/-- An RX pick with no held byte takes nothing. -/
theorem rxPick_nil {s : State} (h : s.rxIn = []) : rxPick s = .next s := by
  simp [rxPick, h]

/-- An RX pick takes nothing, or the first held byte into a framer that is ready for it. -/
theorem rxPick_cases (s : State) :
    rxPick s = .next s ∨
    ∃ b held, s.rxIn = b :: held ∧ s.rxSt ≠ .txb ∧ rxPick s = rxByte b { s with rxIn := held } := by
  by_cases hr : s.rxSt = .txb
  · exact .inl (rxPick_txb hr)
  · cases hin : s.rxIn with
    | nil => exact .inl (rxPick_nil hin)
    | cons b held => exact .inr ⟨b, held, rfl, hr, rxPick_cons hr hin⟩

/-! ### One step -/

section
variable {s : State}

theorem runChoice_reset (cfg : ConfigInputs) : runChoice (.reset cfg) s = .next (resetBlock cfg s) := rfl

theorem runChoice_rx (hl : s.live = true) : runChoice .rx s = rxPick s := if_pos hl

theorem runChoice_tx (hl : s.live = true) : runChoice .tx s = .next (txByte s) := if_pos hl

theorem runChoice_linkReset (hl : s.live = true) : runChoice .linkReset s = .next (linkReset s) := if_pos hl

theorem runChoice_inject (ts : DateTime) (cid : Bytes) (hl : s.live = true) :
    runChoice (.inject ts cid) s = .next (injectRecord ts cid s) := if_pos hl

/-- Before the first RESET, no pick but RESET is enabled (`10_state.md` R39). -/
theorem runChoice_not_live {c : Choice} (hl : s.live = false) (hc : ∀ cfg, c ≠ .reset cfg) :
    runChoice c s = .fault .beforeReset := by
  cases c with
  | reset cfg => exact absurd rfl (hc cfg)
  | _ => simp [runChoice, hl]

/-- Everything a pick that is carried out can do. -/
theorem runChoice_eq_next {c : Choice} {t : State} (h : runChoice c s = .next t) :
    (∃ cfg, c = .reset cfg ∧ t = resetBlock cfg s) ∨ (c = .rx ∧ rxPick s = .next t) ∨ (c = .tx ∧ t = txByte s) ∨
    (c = .linkReset ∧ t = linkReset s) ∨ (∃ ts cid, c = .inject ts cid ∧ t = injectRecord ts cid s) := by
  cases hl : s.live with
  | true =>
    cases c with
    | reset cfg => exact .inl ⟨cfg, rfl, next_unique h rfl⟩
    | rx => exact .inr (.inl ⟨rfl, (runChoice_rx hl).symm.trans h⟩)
    | tx => exact .inr (.inr (.inl ⟨rfl, next_unique h (runChoice_tx hl)⟩))
    | linkReset =>
      exact .inr (.inr (.inr (.inl ⟨rfl, next_unique h (runChoice_linkReset hl)⟩)))
    | inject ts cid =>
      exact .inr (.inr (.inr (.inr ⟨ts, cid, rfl,
        next_unique h (runChoice_inject ts cid hl)⟩)))
  | false =>
    cases c with
    | reset cfg => exact .inl ⟨cfg, rfl, next_unique h rfl⟩
    | _ => rw [runChoice_not_live hl (by simp)] at h; cases h

end

theorem step_not_live_of_sched_nil {s : State} (h : s.sched = []) (hl : s.live = false) :
    step s = .fault .beforeReset := by
  simp [step, runNext, h, hl]

/-- A step is idle, or carries out the first pick. -/
theorem step_eq_next {s t : State} (h : step s = .next t) :
    t = s ∨ ∃ c later, s.sched = c :: later ∧ runChoice c { s with sched := later } = .next t := by
  cases hs : s.sched with
  | nil =>
    cases hl : s.live with
    | true => exact .inl (next_unique h (step_of_sched_nil hs hl))
    | false => rw [step_not_live_of_sched_nil hs hl] at h; cases h
  | cons c later => exact .inr ⟨c, later, rfl, (step_of_sched_cons hs).symm.trans h⟩

/-- Settles O51: neither the idle step nor a pick other than RESET is carried out before the first RESET. -/
theorem nothingRunsBeforeTheFirstReset : Obligations.NothingRunsBeforeTheFirstReset := by
  unfold Obligations.NothingRunsBeforeTheFirstReset
  intro s hl hs
  cases hsched : s.sched with
  | nil => exact step_not_live_of_sched_nil hsched hl
  | cons c later =>
    rw [step_of_sched_cons hsched]
    exact runChoice_not_live hl (fun cfg hc => hs cfg later (hc ▸ hsched))

/-! ### INJECT (`10_state.md` R33) -/

/-- The three tests of a record, negated. -/
theorem injectable_eq_false {ts : DateTime} {cid : Bytes} : injectable ts cid = false ↔
    validDateTime ts = false ∨ cid.length < 1 ∨ Config.maxAttCardId < cid.length ∨
      ∃ c ∈ cid, c.toNat < 0x20 ∨ 0x7E < c.toNat := by
  simp only [injectable, Bool.and_eq_false_iff, decide_eq_false_iff_not, not_and_or, Nat.not_le,
    List.all_eq_false, decide_eq_true_eq, or_assoc]

/-- Settles O48: the three outcomes of `injectRecord_cases`, with the tests of a record written out. -/
theorem injectAppendsOrRefuses : Obligations.InjectAppendsOrRefuses := by
  unfold Obligations.InjectAppendsOrRefuses
  intro s ts cid later hl hs
  dsimp only
  have hstep : step s = .next (injectRecord ts cid { s with sched := later }) :=
    (step_of_sched_cons hs).trans (runChoice_inject ts cid hl)
  rw [← injectable_eq_false, hstep]
  rcases injectRecord_cases ts cid { s with sched := later } with ⟨hbad, h⟩ | ⟨hgood, hfull, h⟩ | ⟨hgood, hroom, h⟩
  · exact ⟨fun _ => congrArg _ h, fun hn => absurd hbad hn, fun hn => absurd hbad hn⟩
  · exact ⟨fun hb => absurd hgood (by simp [hb]), fun _ _ => congrArg _ h, fun _ hr => absurd hfull hr⟩
  · exact ⟨fun hb => absurd hgood (by simp [hb]), fun _ hf => absurd hf hroom, fun _ _ => congrArg _ h⟩

/-! ### The configuration latches (`10_state.md` R28) -/

theorem dispatch_sameLatches {P : Bytes} {s t : State} (h : dispatch P s = .next t) : SameLatches s t := by
  rcases dispatch_cases P s with ⟨-, hd⟩ | ⟨id, prm, -, -, hd⟩ | ⟨i, -, hd⟩
  · obtain rfl := next_unique h hd
    exact ⟨rfl, rfl, rfl⟩
  · obtain rfl := next_unique h hd
    exact ⟨by simp, by simp, by simp⟩
  · have hlogged : SameLatches s (logReceived i.commandId i.params s) := ⟨by simp, by simp, by simp⟩
    exact hlogged.trans (exec_keeps (hd.symm.trans h)).toSameLatches

theorem complete_sameLatches {s t : State} (h : complete s = .next t) : SameLatches s t := by
  cases ha : frameAccept s.rxBuf with
  | error c =>
    obtain rfl := next_unique h (complete_of_error ha)
    exact ⟨rfl, rfl, rfl⟩
  | ok P =>
    obtain ⟨hrid, hrnd, hrlog⟩ := dispatch_sameLatches ((complete_of_ok ha).symm.trans h)
    exact ⟨hrid, hrnd, hrlog⟩

theorem rxByte_sameLatches {b : Byte} {s t : State} (h : rxByte b s = .next t) : SameLatches s t := by
  rcases rxByte_cases b s with ⟨buf, n, r, hb⟩ | ⟨buf, n, hb⟩
  · obtain rfl := next_unique h hb
    exact ⟨rfl, rfl, rfl⟩
  · obtain ⟨hrid, hrnd, hrlog⟩ := complete_sameLatches (hb.symm.trans h)
    exact ⟨hrid, hrnd, hrlog⟩

theorem rxPick_sameLatches {s t : State} (h : rxPick s = .next t) : SameLatches s t := by
  rcases rxPick_cases s with hn | ⟨b, held, -, -, hb⟩
  · obtain rfl := next_unique h hn
    exact ⟨rfl, rfl, rfl⟩
  · obtain ⟨hrid, hrnd, hrlog⟩ := rxByte_sameLatches (hb.symm.trans h)
    exact ⟨hrid, hrnd, hrlog⟩

theorem txByte_sameLatches (s : State) : SameLatches s (txByte s) := by
  cases hq : s.txQ with
  | nil => rw [txByte_nil hq]; exact ⟨rfl, rfl, rfl⟩
  | cons b q => rw [txByte_cons hq]; exact ⟨rfl, rfl, rfl⟩

theorem injectRecord_sameLatches (ts : DateTime) (cid : Bytes) (s : State) :
    SameLatches s (injectRecord ts cid s) := by
  rcases injectRecord_cases ts cid s with ⟨-, h⟩ | ⟨-, -, h⟩ | ⟨-, -, h⟩ <;> rw [h] <;> exact ⟨rfl, rfl, rfl⟩

/-- A pick other than RESET keeps the latches. -/
theorem runChoice_sameLatches {c : Choice} {s t : State} (h : runChoice c s = .next t)
    (hc : ∀ cfg, c ≠ .reset cfg) : SameLatches s t := by
  rcases runChoice_eq_next h with ⟨cfg, hr, -⟩ | ⟨-, hrx⟩ | ⟨-, rfl⟩ | ⟨-, rfl⟩ | ⟨ts, cid, -, rfl⟩
  · exact absurd hr (hc cfg)
  · exact rxPick_sameLatches hrx
  · exact txByte_sameLatches s
  · exact ⟨rfl, rfl, rfl⟩
  · exact injectRecord_sameLatches ts cid s

/-- Settles O57: the idle step keeps everything, and every pick but RESET keeps the latches. -/
theorem onlyResetWritesTheLatches : Obligations.OnlyResetWritesTheLatches := by
  unfold Obligations.OnlyResetWritesTheLatches
  intro s t h hs
  rcases step_eq_next h with rfl | ⟨c, later, hsched, hc⟩
  · exact ⟨rfl, rfl, rfl⟩
  · obtain ⟨hrid, hrnd, hrlog⟩ := runChoice_sameLatches hc (fun cfg hr => hs cfg later (hr ▸ hsched))
    exact ⟨hrid, hrnd, hrlog⟩

end Sys2Proof.Machine

/-! ## The invariant of the block

`BlockInv` speaks of the device state, of the open span and of the response queue. A command runs with the span taken out
and the queue empty (`SpanTaken`), where `SpanFits` does not hold of the framer state; it writes the device state, and its
end puts the framer and the queue right again. -/

namespace Sys2Proof.Machine

/-- The part of `BlockInv` that is about the device state (`10_state.md` R23, R24, R25, R38). -/
structure DeviceInv (s : State) : Prop where
  cursor_le_log : s.readCursor.toNat ≤ s.attLog.length
  log_le_max : s.attLog.length ≤ Config.maxLog
  persons_le_max : s.persons.length ≤ Config.maxPersons
  persons_ok : ∀ p ∈ s.persons, personOk p = true
  log_ok : ∀ a ∈ s.attLog, attendanceOk a = true

theorem BlockInv.device {s : State} (h : BlockInv s) : DeviceInv s :=
  ⟨h.cursor_le_log, h.log_le_max, h.persons_le_max, h.persons_ok, h.log_ok⟩

theorem DeviceInv.of_sameDevice {s t : State} (h : DeviceInv s) (hd : SameDevice s t) : DeviceInv t := by
  obtain ⟨hpersons, hlog, hcursor, -, -⟩ := hd
  exact ⟨by rw [hcursor, hlog]; exact h.cursor_le_log, by rw [hlog]; exact h.log_le_max,
    by rw [hpersons]; exact h.persons_le_max, by rw [hpersons]; exact h.persons_ok, by rw [hlog]; exact h.log_ok⟩

/-! ### The states in which a good device makes a good block -/

section
variable {t : State}

/-- While the block receives, the queue is empty and the open span must fit. -/
theorem DeviceInv.receiving (h : DeviceInv t) (hfits : SpanFits t) (hrem : t.rxSt ≠ .body → t.rxRem = 0)
    (hr : t.rxSt ≠ .txb) (hq : t.txQ = []) : BlockInv t :=
  ⟨h.cursor_le_log, h.log_le_max, h.persons_le_max, h.persons_ok, h.log_ok, hfits, hrem,
    iff_of_false hr (not_not_intro hq), by simp [hq]⟩

theorem DeviceInv.hunting (h : DeviceInv t) (hr : t.rxSt = .hunt) (hbuf : t.rxBuf = []) (hrem : t.rxRem = 0)
    (hq : t.txQ = []) : BlockInv t :=
  h.receiving (by simp [SpanFits, hr, hbuf]) (fun _ => hrem) (by simp [hr]) hq

theorem DeviceInv.sending (h : DeviceInv t) (hr : t.rxSt = .txb) (hbuf : t.rxBuf = []) (hrem : t.rxRem = 0)
    (hq : t.txQ ≠ []) (hlen : t.txQ.length ≤ 259) : BlockInv t :=
  ⟨h.cursor_le_log, h.log_le_max, h.persons_le_max, h.persons_ok, h.log_ok, by simp [SpanFits, hr, hbuf],
    fun _ => hrem, iff_of_true hr hq, hlen⟩

end

/-- In a good block that receives, no response is waiting. -/
theorem BlockInv.txQ_eq_nil {s : State} (h : BlockInv s) (hr : s.rxSt ≠ .txb) : s.txQ = [] :=
  not_not.mp fun hq => hr (h.txb_iff.mpr hq)

/-- The picks to come and the held bytes are the environment's: the invariant does not read them. -/
theorem BlockInv.with_inputs {s : State} (h : BlockInv s) (later : List Choice) (held : Bytes) :
    BlockInv { s with sched := later, rxIn := held } :=
  ⟨h.cursor_le_log, h.log_le_max, h.persons_le_max, h.persons_ok, h.log_ok, h.span_fits, h.rem_zero, h.txb_iff,
    h.txq_le⟩

/-! ### RESET -/

/-- RESET needs nothing of the state before it (`70_reset_and_hazards.md` R250). -/
theorem resetBlock_good (cfg : ConfigInputs) (s : State) : BlockInv (resetBlock cfg s) :=
  DeviceInv.hunting ⟨by simp [resetBlock], by simp [resetBlock], by simp [resetBlock], by simp [resetBlock],
    by simp [resetBlock]⟩ rfl rfl rfl rfl

theorem reset_eq_resetBlock : State.reset = resetBlock Config.defaultInputs State.reset := rfl

/-- Settles O53: the pick is carried out in any state, and what it leaves is good (`resetBlock_good`). -/
theorem everyResetIsGood : Obligations.EveryResetIsGood := by
  unfold Obligations.EveryResetIsGood
  intro s cfg later hs
  exact ⟨_, (step_of_sched_cons hs).trans (runChoice_reset cfg), rfl, resetBlock_good _ _⟩

/-- Settles O52: the reset state is what a RESET leaves. -/
theorem resetStateIsGood : Obligations.ResetStateIsGood := by
  unfold Obligations.ResetStateIsGood
  rw [reset_eq_resetBlock]
  exact resetBlock_good _ _

/-- Settles O50, by evaluation. -/
theorem resetStateTakesTheDefaults : Obligations.ResetStateTakesTheDefaults := by
  unfold Obligations.ResetStateTakesTheDefaults
  refine ⟨reset_eq_resetBlock, ?_⟩
  and_intros <;> rfl

/-! ### The open span (`40_frame_codec.md` R111 to R116) -/

theorem ridIndex_le (B : Bytes) : ridIndex B ≤ 2 := by
  unfold ridIndex; split <;> omega

theorem one_le_ridIndex (B : Bytes) : 1 ≤ ridIndex B := by
  unfold ridIndex; split <;> omega

/-- Where the ReaderId stands is settled once the buffer holds the byte after the first STX. -/
theorem ridIndex_append {B : Bytes} (h : 2 ≤ B.length) (b : Byte) : ridIndex (B ++ [b]) = ridIndex B := by
  simp [ridIndex, List.getElem?_append_left (show 1 < B.length by omega)]

theorem getElem?_zero_append {B : Bytes} (h : B[0]? = some STX) (b : Byte) : (B ++ [b])[0]? = some STX := by
  cases B with
  | nil => simp at h
  | cons c B => simpa using h

/-- An open span starts with STX. -/
theorem SpanFits.starts {s : State} (h : SpanFits s) (hr : s.rxSt ∈ [RxState.stx1, .rid, .ffb, .len, .body]) :
    s.rxBuf[0]? = some STX := by
  cases hx : s.rxSt <;> simp only [SpanFits, hx] at h hr
  case hunt | txb => simp at hr
  case stx1 | rid => simp [h]
  case ffb | len | body => exact h.1

/-- A span has at most 259 bytes while it is open; the byte that completes it is the 260th at most. -/
theorem SpanFits.length_le {s : State} (h : SpanFits s) : s.rxBuf.length ≤ 259 := by
  have hrid := ridIndex_le s.rxBuf
  cases hx : s.rxSt <;> simp only [SpanFits, hx] at h
  case hunt | txb | stx1 | rid => simp [h]
  case ffb | len => omega
  case body =>
    obtain ⟨-, -, hrem, hlen⟩ := h
    have hL := (s.rxBuf.getD (ridIndex s.rxBuf + 2) 0).isLt
    omega

/-- Settles O55: the points about the span are `SpanFits.starts` and `SpanFits.length_le`, the modes are what their types
hold, and the rest is `BlockInv` itself. -/
theorem invariantGivesTheSpecsList : Obligations.InvariantGivesTheSpecsList := by
  unfold Obligations.InvariantGivesTheSpecsList
  intro s h
  have hfits := h.span_fits
  refine ⟨⟨h.cursor_le_log, h.log_le_max, h.persons_le_max⟩, ⟨?_, ?_⟩, ?_, hfits.starts, ?_, ⟨h.txb_iff, ?_⟩,
    hfits.length_le.trans (by omega), h.txq_le⟩
  · cases s.workType <;> decide
  · cases s.protocolMode <;> decide
  · intro hr; simpa only [SpanFits, hr] using hfits
  · intro hr
    simp only [SpanFits, hr] at hfits
    obtain ⟨-, -, hrem, -⟩ := hfits
    exact ⟨hrem, by have := s.rxRem.isLt; omega⟩
  · intro hr; simpa only [SpanFits, hr] using hfits

/-! ### A command in a good block -/

/-- What a command finds: a good device, the span taken out of the buffer, no response waiting. -/
structure SpanTaken (s : State) : Prop extends DeviceInv s where
  rxBuf : s.rxBuf = []
  rxRem : s.rxRem = 0
  txQ : s.txQ = []

/-- Two digits are below 100, so the year of `ParseDMY2` is 2000 to 2099 (`41_dispatch.md` R150). -/
theorem parseDmy2_range {P : Bytes} {a : Nat} {d : Date} (h : parseDmy2 P a = some d) :
    validDate d.day d.month d.year = true ∧ 2000 ≤ d.year ∧ d.year ≤ 2099 := by
  unfold parseDmy2 at h
  split at h
  · rename_i dd mo yy _ _ hyy
    obtain ⟨-, hlt, -⟩ := num_eq_some.mp hyy
    split at h
    · rename_i hv
      obtain rfl := Option.some.inj h
      exact ⟨hv, by simp, by simp; omega⟩
    · cases h
  · cases h

/-- A person parsed out of the params of a payload that fits is as `10_state.md` R23 describes it. -/
theorem personParam_ok {prm : Bytes} {p : Person} (h : personParam prm = some p) (hfit : prm.length ≤ 251) :
    personOk p = true := by
  unfold personParam at h
  split at h
  · cases h
  · rename_i hlen
    split at h
    · rename_i d hd
      obtain ⟨hv, hlo, hhi⟩ := parseDmy2_range hd
      obtain rfl := Option.some.inj h
      simp only [personOk, slice_length, List.length_drop, hv, hlo, hhi, Bool.and_true, and_self, decide_true,
        decide_eq_true_eq]
      omega
    · cases h

/-- The cursor advances by one where it does not wrap, and by less where it does. -/
theorem cursor_add_one_le (c : Count32) : (c + 1).toNat ≤ c.toNat + 1 := by
  rw [BitVec.toNat_add]
  exact Nat.mod_le _ _

/-- Every write keeps the device good; only ADD_PERSON needs that the params fit a payload. -/
theorem Writes.keeps_device {i : Instr} {s u : State} (hw : Writes i s u) (hfit : i.params.length ≤ 251)
    (h : DeviceInv s) : DeviceInv u := by
  cases hw with
  | nothing => exact h
  | event | draw | sample | workType | protocolMode =>
    exact ⟨h.cursor_le_log, h.log_le_max, h.persons_le_max, h.persons_ok, h.log_ok⟩
  | person prm p s parsed room =>
    have hle := h.persons_le_max
    refine ⟨h.cursor_le_log, h.log_le_max, ?_, ?_, h.log_ok⟩
    · simp only [rosterAppend_persons, List.length_append, List.length_singleton]; omega
    · intro q hq
      simp only [rosterAppend_persons, List.mem_append, List.mem_singleton] at hq
      rcases hq with hq | rfl
      · exact h.persons_ok q hq
      · exact personParam_ok parsed hfit
  | clearPersons => exact ⟨h.cursor_le_log, h.log_le_max, Nat.zero_le _, by simp, h.log_ok⟩
  | delPerson prm =>
    exact ⟨h.cursor_le_log, h.log_le_max, (List.length_filter_le _ _).trans h.persons_le_max,
      fun p hp => h.persons_ok p (List.mem_of_mem_filter hp), h.log_ok⟩
  | advance prm s waiting =>
    exact ⟨(cursor_add_one_le s.readCursor).trans waiting, h.log_le_max, h.persons_le_max, h.persons_ok, h.log_ok⟩
  | clearLog => exact ⟨Nat.le_refl 0, Nat.zero_le _, h.persons_le_max, h.persons_ok, by simp⟩

theorem Writes.txQ_eq {i : Instr} {s u : State} (hw : Writes i s u) : u.txQ = s.txQ := by
  cases hw <;> rfl

theorem Writes.spanTaken {i : Instr} {s u : State} (hw : Writes i s u) (hfit : i.params.length ≤ 251)
    (h : SpanTaken s) : SpanTaken u :=
  ⟨hw.keeps_device hfit h.toDeviceInv, hw.keeps.rxBuf.trans h.rxBuf, hw.keeps.rxRem.trans h.rxRem,
    hw.txQ_eq.trans h.txQ⟩

/-- A silent end hunts on an empty buffer. -/
theorem SpanTaken.noresp_good {u : State} (h : SpanTaken u) : BlockInv (noresp u) :=
  (h.of_sameDevice Ends.silent.sameDevice).hunting rfl h.rxBuf h.rxRem h.txQ

/-- Either end of a command puts framer and queue right: a frame has 7 bytes more than its payload. -/
theorem Ends.good {u t : State} (he : Ends u t) (h : SpanTaken u) : BlockInv t := by
  have hdev : DeviceInv t := h.of_sameDevice he.sameDevice
  cases he with
  | silent => exact h.noresp_good
  | response P =>
    rcases respond_cases P u with ⟨hle, hP⟩ | ⟨-, hP⟩ <;> rw [hP] at hdev ⊢
    · refine hdev.sending rfl h.rxBuf h.rxRem (frameBytes_ne_nil _ _) ?_
      simp only [answered_txQ, frameBytes_length]; omega
    · exact hdev.hunting rfl h.rxBuf h.rxRem h.txQ

/-! ### Dispatch and COMPLETE -/

/-- Every row of the opcode table takes the bytes after the CommandId as params (`30_encoding.md` R77). -/
theorem opcodeTable_build_params (prm : Bytes) : ∀ r ∈ opcodeTable, (r.build prm).params = prm := by
  simp [opcodeTable, Instr.params]

theorem params_of_decode {P : Bytes} {i : Instr} (h : decode P = .ok i) : ∃ id, P = id :: i.params := by
  cases P with
  | nil => cases h
  | cons id prm =>
    cases hf : opcodeTable.find? (fun r => r.selects id) with
    | none => simp [decode, hf] at h
    | some r =>
      simp only [decode, hf, Except.ok.injEq] at h
      exact ⟨id, by rw [← h, opcodeTable_build_params prm r (List.mem_of_find?_eq_some hf)]⟩

theorem SpanTaken.logReceived {s : State} (h : SpanTaken s) (id : Byte) (prm : Bytes) :
    SpanTaken (logReceived id prm s) :=
  ⟨h.of_sameDevice ⟨by simp, by simp, by simp, by simp, by simp⟩, by simp [h.rxBuf], by simp [h.rxRem],
    by simp [h.txQ]⟩

theorem dispatch_good {P : Bytes} {s t : State} (hfit : P.length ≤ 252) (hs : SpanTaken s)
    (h : dispatch P s = .next t) : BlockInv t := by
  rcases dispatch_cases P s with ⟨-, hd⟩ | ⟨id, prm, -, -, hd⟩ | ⟨i, hi, hd⟩
  · obtain rfl := next_unique h hd
    exact hs.noresp_good
  · obtain rfl := next_unique h hd
    exact (hs.logReceived id prm).noresp_good
  · obtain ⟨id, rfl⟩ := params_of_decode hi
    obtain ⟨u, hw, he⟩ := exec_eq_next (hd.symm.trans h)
    exact he.good (hw.spanTaken (Nat.le_of_lt_succ hfit) (hs.logReceived _ _))

/-- COMPLETE takes the span out, so it asks nothing of the buffer. -/
theorem complete_good {s t : State} (hd : DeviceInv s) (hq : s.txQ = []) (h : complete s = .next t) : BlockInv t := by
  have htaken : SpanTaken { s with rxBuf := [], rxRem := 0 } :=
    ⟨hd.of_sameDevice ⟨rfl, rfl, rfl, rfl, rfl⟩, rfl, rfl, hq⟩
  cases ha : frameAccept s.rxBuf with
  | error c =>
    obtain rfl := next_unique h (complete_of_error ha)
    exact DeviceInv.hunting (hd.of_sameDevice ⟨rfl, rfl, rfl, rfl, rfl⟩) rfl rfl rfl hq
  | ok P => exact dispatch_good (frameAccept_payload_length ha) htaken ((complete_of_ok ha).symm.trans h)

/-! ### Every pick keeps the invariant -/

/-- A step of a receiving framer is good when the span it leaves fits. -/
theorem BlockInv.framerMoves {s : State} (hs : BlockInv s) (hr : s.rxSt ≠ .txb) {buf : Bytes} {n : Byte} {r : RxState}
    (hfits : SpanFits { s with rxBuf := buf, rxRem := n, rxSt := r }) (hrem : r ≠ .body → n = 0) (hr' : r ≠ .txb) :
    BlockInv { s with rxBuf := buf, rxRem := n, rxSt := r } :=
  DeviceInv.receiving (hs.device.of_sameDevice ⟨rfl, rfl, rfl, rfl, rfl⟩) hfits hrem hr' (hs.txQ_eq_nil hr)

section
variable {s : State} {b : Byte}

/-- The byte after the first STX is a second STX or the ReaderId (R113). -/
theorem SpanFits.second_byte (h : SpanFits s) (hr : s.rxSt = .stx1) :
    SpanFits { s with rxBuf := s.rxBuf ++ [b], rxSt := if b = STX then .rid else .ffb } := by
  simp only [SpanFits, hr] at h
  by_cases hb : b = STX <;> simp [SpanFits, h, hb, ridIndex]

/-- After the second STX comes the ReaderId, whatever it is (R113). -/
theorem SpanFits.rid_byte (h : SpanFits s) (hr : s.rxSt = .rid) :
    SpanFits { s with rxBuf := s.rxBuf ++ [b], rxSt := .ffb } := by
  simp only [SpanFits, hr] at h
  simp [SpanFits, h, ridIndex]

/-- The byte in the 0xFF position stands after the ReaderId (R114). -/
theorem SpanFits.fill_byte (h : SpanFits s) (hr : s.rxSt = .ffb) :
    SpanFits { s with rxBuf := s.rxBuf ++ [b], rxSt := .len } := by
  simp only [SpanFits, hr] at h ⊢
  obtain ⟨hstx, hlen⟩ := h
  have hrid := one_le_ridIndex s.rxBuf
  rw [ridIndex_append (by omega)]
  exact ⟨getElem?_zero_append hstx b, by simp [hlen]⟩

/-- A Length byte that is not 0 is the number of bytes to come (R115). -/
theorem SpanFits.length_byte (h : SpanFits s) (hr : s.rxSt = .len) (hb : b ≠ 0) :
    SpanFits { s with rxBuf := s.rxBuf ++ [b], rxRem := b, rxSt := .body } := by
  simp only [SpanFits, hr] at h ⊢
  obtain ⟨hstx, hlen⟩ := h
  have hpos : 1 ≤ b.toNat := Nat.pos_of_ne_zero fun h0 => hb (BitVec.eq_of_toNat_eq h0)
  rw [ridIndex_append (by have := one_le_ridIndex s.rxBuf; omega)]
  have hget : (s.rxBuf ++ [b]).getD (ridIndex s.rxBuf + 2) 0 = b := by rw [← hlen]; simp
  refine ⟨getElem?_zero_append hstx b, by simp; omega, hpos, ?_⟩
  rw [hget, List.length_append, List.length_singleton, hlen]

/-- A byte of the body that is not the last counts down (R116). -/
theorem SpanFits.body_byte (h : SpanFits s) (hr : s.rxSt = .body) (hn : s.rxRem - 1 ≠ 0) :
    SpanFits { s with rxBuf := s.rxBuf ++ [b], rxRem := s.rxRem - 1, rxSt := .body } := by
  simp only [SpanFits, hr] at h ⊢
  obtain ⟨hstx, hlong, hrem, hlen⟩ := h
  have hpred : (s.rxRem - 1).toNat = s.rxRem.toNat - 1 := by bv_omega
  have hpos : 1 ≤ (s.rxRem - 1).toNat := Nat.pos_of_ne_zero fun h0 => hn (BitVec.eq_of_toNat_eq h0)
  rw [ridIndex_append (by omega)]
  refine ⟨getElem?_zero_append hstx b, by simp; omega, hpos, ?_⟩
  rw [List.getD_append _ _ _ _ (by omega), List.length_append, List.length_singleton]
  omega

theorem rxByte_good {t : State} (hs : BlockInv s) (h : rxByte b s = .next t) : BlockInv t := by
  have hfits := hs.span_fits
  obtain ⟨r, hr⟩ : ∃ r, s.rxSt = r := ⟨_, rfl⟩
  have hcomplete (buf : Bytes) (n : Byte) (hx : s.rxSt ≠ .txb)
      (hc : complete { s with rxBuf := buf, rxRem := n } = .next t) : BlockInv t :=
    complete_good (s := { s with rxBuf := buf, rxRem := n })
      (hs.device.of_sameDevice ⟨rfl, rfl, rfl, rfl, rfl⟩) (hs.txQ_eq_nil hx) hc
  cases r with
  | hunt =>
    obtain rfl := next_unique h (rxByte_hunt b hr)
    split
    · next hb =>
      exact hs.framerMoves (by simp [hr]) (by simp [SpanFits, hb]) (fun _ => hs.rem_zero (by simp [hr])) (by simp)
    · exact hs
  | stx1 =>
    obtain rfl := next_unique h (rxByte_stx1 b hr)
    exact hs.framerMoves (by simp [hr]) (hfits.second_byte hr) (fun _ => hs.rem_zero (by simp [hr])) (by split <;> simp)
  | rid =>
    obtain rfl := next_unique h (rxByte_rid b hr)
    exact hs.framerMoves (by simp [hr]) (hfits.rid_byte hr) (fun _ => hs.rem_zero (by simp [hr])) (by simp)
  | ffb =>
    obtain rfl := next_unique h (rxByte_ffb b hr)
    exact hs.framerMoves (by simp [hr]) (hfits.fill_byte hr) (fun _ => hs.rem_zero (by simp [hr])) (by simp)
  | len =>
    rw [rxByte_len b hr] at h
    split at h
    · exact hcomplete _ s.rxRem (by simp [hr]) h
    · next hb =>
      obtain rfl := next_unique h rfl
      exact hs.framerMoves (by simp [hr]) (hfits.length_byte hr hb) (by simp) (by simp)
  | body =>
    rw [rxByte_body b hr] at h
    split at h
    · exact hcomplete _ _ (by simp [hr]) h
    · next hn =>
      obtain rfl := next_unique h rfl
      have hmoved := hs.framerMoves (by simp [hr]) (hfits.body_byte (b := b) hr hn) (by simp) (by simp)
      rwa [← hr] at hmoved
  | txb =>
    obtain rfl := next_unique h (rxByte_txb b hr)
    exact hs

end

theorem rxPick_good {s t : State} (hs : BlockInv s) (h : rxPick s = .next t) : BlockInv t := by
  rcases rxPick_cases s with hn | ⟨b, held, -, -, hb⟩
  · obtain rfl := next_unique h hn
    exact hs
  · exact rxByte_good (hs.with_inputs s.sched held) (hb.symm.trans h)

/-- TX sends from a block in TXB, whose buffer is empty; after the last byte it hunts. -/
theorem txByte_good {s : State} (hs : BlockInv s) : BlockInv (txByte s) := by
  have hdev (q out : Bytes) (r : RxState) : DeviceInv { s with txQ := q, txOut := out, rxSt := r } :=
    hs.device.of_sameDevice ⟨rfl, rfl, rfl, rfl, rfl⟩
  cases hq : s.txQ with
  | nil => rwa [txByte_nil hq]
  | cons b q =>
    have hr : s.rxSt = .txb := hs.txb_iff.mpr (by simp [hq])
    have hbuf : s.rxBuf = [] := by simpa only [SpanFits, hr] using hs.span_fits
    have hrem : s.rxRem = 0 := hs.rem_zero (by simp [hr])
    have hlen : q.length + 1 ≤ 259 := by simpa [hq] using hs.txq_le
    rw [txByte_cons hq]
    by_cases hlast : q = []
    · rw [if_pos hlast]
      exact (hdev _ _ _).hunting rfl hbuf hrem hlast
    · rw [if_neg hlast]
      exact (hdev _ _ _).sending hr hbuf hrem hlast (Nat.le_of_succ_le hlen)

theorem linkReset_good {s : State} (hs : BlockInv s) : BlockInv (linkReset s) :=
  DeviceInv.hunting (hs.device.of_sameDevice ⟨rfl, rfl, rfl, rfl, rfl⟩) rfl rfl rfl rfl

theorem injectRecord_good {s : State} (ts : DateTime) (cid : Bytes) (hs : BlockInv s) :
    BlockInv (injectRecord ts cid s) := by
  obtain ⟨hcursor, hmax, hpersons, hpersonsOk, hlogOk, hfits, hrem, htxb, htxq⟩ := hs
  rcases injectRecord_cases ts cid s with ⟨-, h⟩ | ⟨-, -, h⟩ | ⟨hgood, hroom, h⟩ <;> rw [h]
  · exact ⟨hcursor, hmax, hpersons, hpersonsOk, hlogOk, hfits, hrem, htxb, htxq⟩
  · exact ⟨hcursor, hmax, hpersons, hpersonsOk, hlogOk, hfits, hrem, htxb, htxq⟩
  · refine ⟨?_, ?_, hpersons, hpersonsOk, ?_, hfits, hrem, htxb, htxq⟩
    · simp only [acknowledge_readCursor, acknowledge_attLog, logAppend_readCursor, logAppend_attLog,
        List.length_append]
      omega
    · simp only [acknowledge_attLog, logAppend_attLog, List.length_append, List.length_singleton]
      omega
    · intro a ha
      simp only [acknowledge_attLog, logAppend_attLog, List.mem_append, List.mem_singleton] at ha
      rcases ha with ha | rfl
      · exact hlogOk a ha
      · exact hgood

theorem runChoice_good {c : Choice} {s t : State} (hs : BlockInv s) (h : runChoice c s = .next t) : BlockInv t := by
  rcases runChoice_eq_next h with ⟨cfg, -, rfl⟩ | ⟨-, hrx⟩ | ⟨-, rfl⟩ | ⟨-, rfl⟩ | ⟨ts, cid, -, rfl⟩
  · exact resetBlock_good cfg s
  · exact rxPick_good hs hrx
  · exact txByte_good hs
  · exact linkReset_good hs
  · exact injectRecord_good ts cid hs

/-- Settles O54: the idle step changes nothing, and every pick keeps the invariant. -/
theorem stepKeepsTheInvariant : Obligations.StepKeepsTheInvariant := by
  unfold Obligations.StepKeepsTheInvariant
  intro s t hs h
  rcases step_eq_next h with rfl | ⟨c, later, -, hc⟩
  · exact hs
  · exact runChoice_good (hs.with_inputs later s.rxIn) hc

end Sys2Proof.Machine

/-! ## What no peer and no observer sees

A person's table, date and name and the protocol mode are stored and never read (`10_state.md` R23, R29). An operation
that touches neither the roster nor the mode is the same operation whatever stands there (`Blind`); the few that do write
them are looked at one by one. -/

namespace Sys2Proof.Machine

/-- `s` with another roster and another protocol mode. -/
def withUnread (ps : List Person) (m : ProtocolMode) (s : State) : State := { s with persons := ps, protocolMode := m }

/-- The operation neither reads nor writes the roster or the protocol mode. -/
def Blind (f : State → State) : Prop := ∀ ps m s, f (withUnread ps m s) = withUnread ps m (f s)

/-- A state that looks the same is the state with a roster of the same card ids, and some mode. -/
theorem sameVisible_iff {s s' : State} : SameVisible s s' ↔
    ∃ ps m, ps.map Person.cardId = s.persons.map Person.cardId ∧ s' = withUnread ps m s := by
  constructor
  · rintro ⟨hids, hrest⟩
    refine ⟨s'.persons, s'.protocolMode, hids, ?_⟩
    cases s; cases s'
    simp only [State.mk.injEq, withUnread] at hrest ⊢
    tauto
  · rintro ⟨ps, m, hids, rfl⟩
    exact ⟨hids, rfl⟩

theorem SameVisible.refl (s : State) : SameVisible s s := ⟨rfl, rfl⟩

theorem Blind.persons {f : State → State} (hf : Blind f) (s : State) : (f s).persons = s.persons :=
  (congrArg State.persons (hf s.persons s.protocolMode s) :)

theorem SameVisible.map {f : State → State} {s s' : State} (h : SameVisible s s') (hf : Blind f) :
    SameVisible (f s) (f s') := by
  obtain ⟨ps, m, hids, rfl⟩ := sameVisible_iff.mp h
  exact sameVisible_iff.mpr ⟨ps, m, by rw [hf.persons]; exact hids, hf ps m s⟩

/-! ### The blind operations -/

theorem noresp_blind : Blind noresp := fun _ _ _ => rfl

theorem emit_blind (e : Event) : Blind (emit e) := fun _ _ _ => rfl

theorem rndDrawn_blind : Blind rndDrawn := fun _ _ _ => rfl

theorem rtcSampled_blind : Blind rtcSampled := fun _ _ _ => rfl

theorem resetLog_blind : Blind resetLog := fun _ _ _ => rfl

theorem frameError_blind (c : FrameError) : Blind (frameError c) := fun _ _ _ => rfl

theorem linkReset_blind : Blind linkReset := fun _ _ _ => rfl

theorem respond_blind (P : Bytes) : Blind (respond P) := by
  intro ps m s
  by_cases hP : P.length ≤ 252
  · rw [respond_of_le _ hP, respond_of_le _ hP]; rfl
  · rw [respond_of_gt _ (by omega), respond_of_gt _ (by omega)]; rfl

theorem logReceived_blind (id : Byte) (prm : Bytes) : Blind (logReceived id prm) := by
  intro ps m s
  rw [logReceived_eq, logReceived_eq]; rfl

theorem txByte_blind : Blind txByte := by
  intro ps m s
  cases hq : s.txQ with
  | nil => rw [txByte_nil hq, txByte_nil (s := withUnread ps m s) hq]
  | cons b q => rw [txByte_cons hq, txByte_cons (s := withUnread ps m s) hq]; rfl

theorem injectRecord_blind (ts : DateTime) (cid : Bytes) : Blind (injectRecord ts cid) := by
  intro ps m s
  have hlen : logLen (withUnread ps m s) = logLen s := rfl
  simp only [injectRecord, hlen]
  split_ifs <;> rfl

/-! ### Outcomes that agree -/

/-- Where the first outcome is a next state, the second is one that looks the same. -/
def Agree (o o' : Host.Outcome State Fault Refusal) : Prop :=
  ∀ t, o = .next t → ∃ t', o' = .next t' ∧ SameVisible t t'

theorem SameVisible.agree {t t' : State} (h : SameVisible t t') : Agree (.next t) (.next t') := by
  intro u hu
  obtain rfl := next_unique hu rfl
  exact ⟨t', rfl, h⟩

theorem agree_fault (r : Fault) (o : Host.Outcome State Fault Refusal) : Agree (.fault r) o := by
  intro t h
  cases h

section
variable {s s' : State} (h : SameVisible s s')
include h

theorem SameVisible.agree_map {f : State → State} (hf : Blind f) : Agree (.next (f s)) (.next (f s')) :=
  (h.map hf).agree

theorem SameVisible.agree_respond (P : Bytes) : Agree (.next (respond P s)) (.next (respond P s')) :=
  h.agree_map (respond_blind P)

/-! ### What is read of states that look the same -/

theorem SameVisible.rosterCount_eq : rosterCount s' = rosterCount s := by
  simpa [rosterCount] using congrArg List.length h.1

/-- The fields a command, a pick or the framer chooses by. -/
theorem SameVisible.reads_eq : s'.attLog = s.attLog ∧ s'.readCursor = s.readCursor ∧ s'.workType = s.workType ∧
    s'.rndEn = s.rndEn ∧ rndNow s' = rndNow s ∧ rtcNow s' = rtcNow s := by
  obtain ⟨ps, m, -, rfl⟩ := sameVisible_iff.mp h
  exact ⟨rfl, rfl, rfl, rfl, rfl, rfl⟩

theorem SameVisible.framer_eq : s'.rxSt = s.rxSt ∧ s'.rxBuf = s.rxBuf ∧ s'.rxRem = s.rxRem ∧ s'.rxIn = s.rxIn ∧
    s'.live = s.live ∧ s'.sched = s.sched := by
  obtain ⟨ps, m, -, rfl⟩ := sameVisible_iff.mp h
  exact ⟨rfl, rfl, rfl, rfl, rfl, rfl⟩

/-! ### The operations that write the roster or the mode -/

theorem SameVisible.rosterAppend (p : Person) : SameVisible (rosterAppend p s) (rosterAppend p s') := by
  obtain ⟨ps, m, hids, rfl⟩ := sameVisible_iff.mp h
  exact sameVisible_iff.mpr ⟨ps ++ [p], m, by simp [hids], rfl⟩

/-- DEL_PERSON chooses by the card id, which the two rosters share. -/
theorem SameVisible.rosterRemoveAll (k : Bytes) : SameVisible (rosterRemoveAll k s) (rosterRemoveAll k s') := by
  obtain ⟨ps, m, hids, rfl⟩ := sameVisible_iff.mp h
  have hfilter (l : List Person) :
      (l.filter (fun p => p.cardId != k)).map Person.cardId = (l.map Person.cardId).filter (· != k) := by
    rw [List.filter_map]; rfl
  exact sameVisible_iff.mpr ⟨ps.filter (fun p => p.cardId != k), m, by
    rw [rosterRemoveAll_persons, hfilter, hfilter, hids], rfl⟩

theorem SameVisible.rosterClear : SameVisible (rosterClear s) (rosterClear s') := by
  obtain ⟨ps, m, -, rfl⟩ := sameVisible_iff.mp h
  exact sameVisible_iff.mpr ⟨[], m, rfl, rfl⟩

theorem SameVisible.setProtocolMode (m : ProtocolMode) :
    SameVisible { s with protocolMode := m } { s' with protocolMode := m } := by
  obtain ⟨ps, _, hids, rfl⟩ := sameVisible_iff.mp h
  exact sameVisible_iff.mpr ⟨ps, m, hids, rfl⟩

/-- A RESET from states that look the same leaves one and the same state. -/
theorem SameVisible.resetBlock (cfg : ConfigInputs) : SameVisible (resetBlock cfg s) (resetBlock cfg s') := by
  obtain ⟨ps, m, -, rfl⟩ := sameVisible_iff.mp h
  exact .refl _

/-! ### Every command agrees -/

theorem readCard_agree (prm : Bytes) : Agree (exec (.readCard prm) s) (exec (.readCard prm) s') := by
  obtain ⟨hlog, hcursor, hwork, hrnd, hnow, -⟩ := h.reads_eq
  simp only [exec, execReadCard, pendingRecord, logAt, hlog, hcursor, hwork, hrnd, hnow]
  cases s.attLog[s.readCursor.toNat]? with
  | some a => exact h.agree_respond _
  | none =>
    dsimp only
    split
    · exact h.agree_respond _
    · split
      · exact (h.map rndDrawn_blind).agree_respond _
      · exact h.agree_respond _

theorem accessEvent_agree (prm : Bytes) : Agree (exec (.accessEvent prm) s) (exec (.accessEvent prm) s') := by
  simp only [exec, execAccessEvent]
  split
  · exact (h.map (emit_blind _)).agree_respond _
  · split
    · exact (h.map (emit_blind _)).agree_respond _
    · exact h.agree_respond _

theorem setWorkType_agree (prm : Bytes) : Agree (exec (.setWorkType prm) s) (exec (.setWorkType prm) s') := by
  simp only [exec, execSetWorkType]
  cases workTypeParam prm with
  | some w => exact (h.map (f := fun u => { u with workType := w }) fun _ _ _ => rfl).agree_respond _
  | none => exact h.agree_respond _

theorem setProtocolMode_agree (prm : Bytes) :
    Agree (exec (.setProtocolMode prm) s) (exec (.setProtocolMode prm) s') := by
  simp only [exec, execSetProtocolMode]
  cases protocolModeParam prm with
  | some m => exact (h.setProtocolMode m).agree_respond _
  | none => exact h.agree_respond _

theorem addPerson_agree (prm : Bytes) : Agree (exec (.addPerson prm) s) (exec (.addPerson prm) s') := by
  simp only [exec, execAddPerson, h.rosterCount_eq]
  cases personParam prm with
  | none => exact h.agree_respond _
  | some p =>
    dsimp only
    split
    · exact h.agree_respond _
    · exact (h.rosterAppend p).agree_respond _

theorem ackLog_agree (prm : Bytes) : Agree (exec (.ackLog prm) s) (exec (.ackLog prm) s') := by
  obtain ⟨hlog, hcursor, -⟩ := h.reads_eq
  have hwaits : logLen s' > s'.readCursor.toNat ↔ logLen s > s.readCursor.toNat := by simp only [logLen, hlog, hcursor]
  simp only [exec, execAckLog, hwaits]
  split_ifs
  · exact (h.map (f := fun u => { u with readCursor := u.readCursor + 1 }) fun _ _ _ => rfl).agree_map noresp_blind
  · exact h.agree_map noresp_blind

theorem clearLog_agree (prm : Bytes) : Agree (exec (.clearLog prm) s) (exec (.clearLog prm) s') := by
  simp only [exec, execClearLog]
  split
  · exact (h.map resetLog_blind).agree_respond _
  · exact h.agree_respond _

theorem getTime_agree (prm : Bytes) : Agree (exec (.getTime prm) s) (exec (.getTime prm) s') := by
  obtain ⟨-, -, -, -, -, hnow⟩ := h.reads_eq
  simp only [exec, execGetTime, hnow]
  exact (h.map rtcSampled_blind).agree_respond _

theorem personCount_agree (prm : Bytes) : Agree (exec (.personCount prm) s) (exec (.personCount prm) s') := by
  simp only [exec, execPersonCount, h.rosterCount_eq]
  exact h.agree_respond _

theorem logStatus_agree (prm : Bytes) : Agree (exec (.logStatus prm) s) (exec (.logStatus prm) s') := by
  obtain ⟨hlog, hcursor, -⟩ := h.reads_eq
  simp only [exec, execLogStatus, logLen, hlog, hcursor]
  exact h.agree_respond _

theorem exec_agree (i : Instr) : Agree (exec i s) (exec i s') := by
  cases i with
  | readCard prm => exact readCard_agree h prm
  | accessEvent prm => exact accessEvent_agree h prm
  | getTime prm => exact getTime_agree h prm
  | setWorkType prm => exact setWorkType_agree h prm
  | setProtocolMode prm => exact setProtocolMode_agree h prm
  | addPerson prm => exact addPerson_agree h prm
  | clearPersons _ => exact h.rosterClear.agree_respond OK
  | delPerson prm => exact (h.rosterRemoveAll prm).agree_respond OK
  | ackLog prm => exact ackLog_agree h prm
  | personCount prm => exact personCount_agree h prm
  | logStatus prm => exact logStatus_agree h prm
  | clearLog prm => exact clearLog_agree h prm
  | ping _ | checkTime _ | mifare52 _ | mifare54 _ | mifare55 _ | mifare56 _ | mifare58 _ | mifare59 _ | mifare62 _
  | mifare63 _ | mifare70 _ | mifare71 _ => exact h.agree_respond _

/-! ### Every step agrees -/

theorem dispatch_agree (P : Bytes) : Agree (dispatch P s) (dispatch P s') := by
  cases hd : decode P with
  | ok i =>
    simp only [dispatch, hd]
    exact exec_agree (h.map (logReceived_blind _ _)) i
  | error r =>
    cases r with
    | emptyPayload =>
      simp only [dispatch, hd]
      exact h.agree_map noresp_blind
    | unassigned id prm =>
      simp only [dispatch, hd]
      exact (h.map (logReceived_blind id prm)).agree_map noresp_blind

theorem complete_agree : Agree (complete s) (complete s') := by
  obtain ⟨-, hbuf, -⟩ := h.framer_eq
  have htaken : SameVisible { s with rxBuf := [], rxRem := 0 } { s' with rxBuf := [], rxRem := 0 } :=
    h.map (f := fun u => { u with rxBuf := [], rxRem := 0 }) fun _ _ _ => rfl
  cases ha : frameAccept s.rxBuf with
  | error c =>
    rw [complete_of_error ha, complete_of_error (hbuf ▸ ha)]
    exact htaken.agree_map (frameError_blind c)
  | ok P =>
    rw [complete_of_ok ha, complete_of_ok (hbuf ▸ ha)]
    exact dispatch_agree htaken P

/-- The framer state, the buffer and the count may be written the same in both. -/
theorem SameVisible.framer (buf : Bytes) (n : Byte) (r : RxState) : SameVisible
    { s with rxBuf := buf, rxRem := n, rxSt := r } { s' with rxBuf := buf, rxRem := n, rxSt := r } :=
  h.map (f := fun u => { u with rxBuf := buf, rxRem := n, rxSt := r }) fun _ _ _ => rfl

end

theorem rxByte_agree {s s' : State} (h : SameVisible s s') (b : Byte) : Agree (rxByte b s) (rxByte b s') := by
  obtain ⟨ps, m, hids, rfl⟩ := sameVisible_iff.mp h
  obtain ⟨r, hr⟩ : ∃ r, s.rxSt = r := ⟨_, rfl⟩
  have hr' : (withUnread ps m s).rxSt = r := hr
  cases r with
  | hunt =>
    rw [rxByte_hunt b hr, rxByte_hunt b hr']
    split
    · exact (h.framer _ s.rxRem _).agree
    · exact h.agree
  | stx1 => rw [rxByte_stx1 b hr, rxByte_stx1 b hr']; exact (h.framer _ s.rxRem _).agree
  | rid => rw [rxByte_rid b hr, rxByte_rid b hr']; exact (h.framer _ s.rxRem _).agree
  | ffb => rw [rxByte_ffb b hr, rxByte_ffb b hr']; exact (h.framer _ s.rxRem _).agree
  | len =>
    rw [rxByte_len b hr, rxByte_len b hr']
    split
    · exact complete_agree (h.framer _ s.rxRem s.rxSt)
    · exact (h.framer _ _ _).agree
  | body =>
    rw [rxByte_body b hr, rxByte_body b hr']
    by_cases hn : s.rxRem - 1 = 0
    · rw [if_pos hn, if_pos (show (withUnread ps m s).rxRem - 1 = 0 from hn)]
      exact complete_agree (h.framer _ (s.rxRem - 1) s.rxSt)
    · rw [if_neg hn, if_neg (show (withUnread ps m s).rxRem - 1 ≠ 0 from hn)]
      exact (h.framer _ (s.rxRem - 1) s.rxSt).agree
  | txb => rw [rxByte_txb b hr, rxByte_txb b hr']; exact h.agree

theorem rxPick_agree {s s' : State} (h : SameVisible s s') : Agree (rxPick s) (rxPick s') := by
  obtain ⟨hr, -, -, hin, -⟩ := h.framer_eq
  by_cases htxb : s.rxSt = .txb
  · rw [rxPick_txb htxb, rxPick_txb (hr.trans htxb)]
    exact h.agree
  · cases hheld : s.rxIn with
    | nil =>
      rw [rxPick_nil hheld, rxPick_nil (hin.trans hheld)]
      exact h.agree
    | cons b held =>
      rw [rxPick_cons htxb hheld, rxPick_cons (hr ▸ htxb) (hin.trans hheld)]
      exact rxByte_agree (h.map (f := fun u => { u with rxIn := held }) fun _ _ _ => rfl) b

theorem runChoice_agree {s s' : State} (h : SameVisible s s') (c : Choice) : Agree (runChoice c s) (runChoice c s') := by
  obtain ⟨-, -, -, -, hlive, -⟩ := h.framer_eq
  cases hl : s.live with
  | false =>
    cases c with
    | reset cfg => exact (h.resetBlock cfg).agree
    | _ => rw [runChoice_not_live hl (by simp)]; exact agree_fault _ _
  | true =>
    have hl' : s'.live = true := hlive.trans hl
    cases c with
    | reset cfg => exact (h.resetBlock cfg).agree
    | rx => rw [runChoice_rx hl, runChoice_rx hl']; exact rxPick_agree h
    | tx => rw [runChoice_tx hl, runChoice_tx hl']; exact h.agree_map txByte_blind
    | linkReset => rw [runChoice_linkReset hl, runChoice_linkReset hl']; exact h.agree_map linkReset_blind
    | inject ts cid =>
      rw [runChoice_inject ts cid hl, runChoice_inject ts cid hl']
      exact h.agree_map (injectRecord_blind ts cid)

theorem step_agree {s s' : State} (h : SameVisible s s') : Agree (step s) (step s') := by
  obtain ⟨-, -, -, -, hlive, hsched⟩ := h.framer_eq
  cases hs : s.sched with
  | nil =>
    cases hl : s.live with
    | false =>
      rw [step_not_live_of_sched_nil hs hl]
      exact agree_fault _ _
    | true =>
      rw [step_of_sched_nil hs hl, step_of_sched_nil (hsched.trans hs) (hlive.trans hl)]
      exact h.agree
  | cons c later =>
    rw [step_of_sched_cons hs, step_of_sched_cons (hsched.trans hs)]
    exact runChoice_agree (h.map (f := fun u => { u with sched := later }) fun _ _ _ => rfl) c

/-- Settles O60: `step` agrees on states that look the same. -/
theorem unreadDataNeverShows : Obligations.UnreadDataNeverShows := by
  unfold Obligations.UnreadDataNeverShows
  intro s s' t h hstep
  exact step_agree h t hstep

end Sys2Proof.Machine

/-! ## What the device state and the response queue go through

The device state is written by RESET, by INJECT and by a command, and by nothing else (`20_memory.md` R62); the response
leaves a byte per TX (`20_memory.md` R61). -/

namespace Sys2Proof.Machine

/-! ### Who writes the device state -/

theorem SameDevice.trans {s u t : State} (h : SameDevice s u) (k : SameDevice u t) : SameDevice s t :=
  ⟨k.persons.trans h.persons, k.attLog.trans h.attLog, k.readCursor.trans h.readCursor,
    k.workType.trans h.workType, k.protocolMode.trans h.protocolMode⟩

/-- The framer fields are no device state. -/
theorem sameDevice_framer (s : State) (buf : Bytes) (n : Byte) (r : RxState) :
    SameDevice s { s with rxBuf := buf, rxRem := n, rxSt := r } :=
  ⟨rfl, rfl, rfl, rfl, rfl⟩

theorem logReceived_sameDevice (id : Byte) (prm : Bytes) (s : State) : SameDevice s (logReceived id prm s) :=
  ⟨by simp, by simp, by simp, by simp, by simp⟩

/-- Only a payload that decodes gets past Dispatch to the device (`41_dispatch.md` R140, `42_commands.md` R189). -/
theorem dispatch_sameDevice_or_decodes {P : Bytes} {s t : State} (h : dispatch P s = .next t) :
    SameDevice s t ∨ ∃ i, decode P = .ok i := by
  rcases dispatch_cases P s with ⟨-, hd⟩ | ⟨id, prm, -, -, hd⟩ | ⟨i, hi, -⟩
  · obtain rfl := next_unique h hd
    exact .inl Ends.silent.sameDevice
  · obtain rfl := next_unique h hd
    exact .inl ((logReceived_sameDevice id prm s).trans Ends.silent.sameDevice)
  · exact .inr ⟨i, hi⟩

/-- A dropped span writes no device state (`60_exceptions.md` R224). -/
theorem complete_sameDevice_or_decodes {s t : State} (h : complete s = .next t) :
    SameDevice s t ∨ ∃ P i, frameAccept s.rxBuf = .ok P ∧ decode P = .ok i := by
  cases ha : frameAccept s.rxBuf with
  | error c =>
    obtain rfl := next_unique h (complete_of_error ha)
    exact .inl ⟨rfl, rfl, rfl, rfl, rfl⟩
  | ok P =>
    rcases dispatch_sameDevice_or_decodes ((complete_of_ok ha).symm.trans h) with hsame | ⟨i, hi⟩
    · exact .inl ((sameDevice_framer s [] 0 s.rxSt).trans hsame)
    · exact .inr ⟨P, i, rfl, hi⟩

/-- The byte taken writes the device state only when it completes a span that is accepted and decodes. -/
theorem rxByte_sameDevice_or_decodes {b : Byte} {s t : State} (h : rxByte b s = .next t) :
    SameDevice s t ∨ ∃ P i, frameAccept (s.rxBuf ++ [b]) = .ok P ∧ decode P = .ok i := by
  have hcomplete (n : Byte) (hc : complete { s with rxBuf := s.rxBuf ++ [b], rxRem := n } = .next t) :
      SameDevice s t ∨ ∃ P i, frameAccept (s.rxBuf ++ [b]) = .ok P ∧ decode P = .ok i :=
    (complete_sameDevice_or_decodes hc).imp_left (sameDevice_framer s _ n s.rxSt).trans
  obtain ⟨r, hr⟩ : ∃ r, s.rxSt = r := ⟨_, rfl⟩
  cases r with
  | hunt =>
    obtain rfl := next_unique h (rxByte_hunt b hr)
    split
    · exact .inl (sameDevice_framer s _ _ _)
    · exact .inl ⟨rfl, rfl, rfl, rfl, rfl⟩
  | stx1 =>
    obtain rfl := next_unique h (rxByte_stx1 b hr)
    exact .inl (sameDevice_framer s _ _ _)
  | rid =>
    obtain rfl := next_unique h (rxByte_rid b hr)
    exact .inl (sameDevice_framer s _ _ _)
  | ffb =>
    obtain rfl := next_unique h (rxByte_ffb b hr)
    exact .inl (sameDevice_framer s _ _ _)
  | len =>
    rw [rxByte_len b hr] at h
    split at h
    · exact hcomplete s.rxRem h
    · obtain rfl := next_unique h rfl
      exact .inl (sameDevice_framer s _ _ _)
  | body =>
    rw [rxByte_body b hr] at h
    split at h
    · exact hcomplete _ h
    · obtain rfl := next_unique h rfl
      exact .inl (sameDevice_framer s _ _ s.rxSt)
  | txb =>
    obtain rfl := next_unique h (rxByte_txb b hr)
    exact .inl ⟨rfl, rfl, rfl, rfl, rfl⟩

theorem rxPick_sameDevice_or_decodes {s t : State} (h : rxPick s = .next t) :
    SameDevice s t ∨ ∃ b held P i, s.rxIn = b :: held ∧ frameAccept (s.rxBuf ++ [b]) = .ok P ∧ decode P = .ok i := by
  rcases rxPick_cases s with hn | ⟨b, held, hin, -, hb⟩
  · obtain rfl := next_unique h hn
    exact .inl ⟨rfl, rfl, rfl, rfl, rfl⟩
  · rcases rxByte_sameDevice_or_decodes (hb.symm.trans h) with ⟨hp, hl, hc, hw, hm⟩ | ⟨P, i, ha, hi⟩
    · exact .inl ⟨hp, hl, hc, hw, hm⟩
    · exact .inr ⟨b, held, P, i, hin, ha, hi⟩

theorem txByte_sameDevice (s : State) : SameDevice s (txByte s) := by
  cases hq : s.txQ with
  | nil => rw [txByte_nil hq]; exact ⟨rfl, rfl, rfl, rfl, rfl⟩
  | cons b q => rw [txByte_cons hq]; exact ⟨rfl, rfl, rfl, rfl, rfl⟩

/-- INJECT writes no device state but the log (`10_state.md` R33). -/
theorem injectRecord_sameDevice_but_log (ts : DateTime) (cid : Bytes) (s : State) :
    SameDevice s { injectRecord ts cid s with attLog := s.attLog } := by
  rcases injectRecord_cases ts cid s with ⟨-, h⟩ | ⟨-, -, h⟩ | ⟨-, -, h⟩ <;> rw [h] <;>
    exact ⟨rfl, rfl, rfl, rfl, rfl⟩

/-- Settles O58: pick by pick; of the RX picks, only the one that ends at an accepted, assigned frame. -/
theorem deviceChangesOnlyByCommandInjectReset : Obligations.DeviceChangesOnlyByCommandInjectReset := by
  unfold Obligations.DeviceChangesOnlyByCommandInjectReset
  intro s t h
  rcases step_eq_next h with rfl | ⟨c, later, hs, hc⟩
  · exact .inl ⟨rfl, rfl, rfl, rfl, rfl⟩
  have hpicked : SameDevice s { s with sched := later } := ⟨rfl, rfl, rfl, rfl, rfl⟩
  rcases runChoice_eq_next hc with ⟨cfg, rfl, -⟩ | ⟨rfl, hrx⟩ | ⟨-, rfl⟩ | ⟨-, rfl⟩ | ⟨ts, cid, rfl, rfl⟩
  · exact .inr (.inl ⟨cfg, later, hs⟩)
  · rcases rxPick_sameDevice_or_decodes hrx with hsame | ⟨b, held, P, i, hin, ha, hi⟩
    · exact .inl (hpicked.trans hsame)
    · exact .inr (.inr (.inr ⟨later, b, held, P, i, hs, hin, ha, hi⟩))
  · exact .inl (hpicked.trans (txByte_sameDevice _))
  · exact .inl ⟨rfl, rfl, rfl, rfl, rfl⟩
  · exact .inr (.inr (.inl ⟨ts, cid, later, hs,
      hpicked.trans (injectRecord_sameDevice_but_log ts cid { s with sched := later })⟩))

/-! ### The response leaves (`40_frame_codec.md` R119) -/

theorem run_succ_of_step {s s' : State} (h : step s = .next s') (k : Nat) :
    Host.Core.run core (k + 1) s = Host.Core.run core k s' := by
  have hcore : core.step s = .next s' := h
  simp only [Host.Core.run, hcore]

/-- A TX pick sends the first byte waiting; the framer hunts after the last. -/
theorem step_tx_cons {s : State} {later : List Choice} {b : Byte} {q : Bytes} (hl : s.live = true)
    (hs : s.sched = .tx :: later) (hq : s.txQ = b :: q) :
    step s = .next { s with sched := later, txQ := q, txOut := s.txOut ++ [b],
                            rxSt := if q = [] then .hunt else s.rxSt } :=
  (step_of_sched_cons hs).trans ((runChoice_tx (s := { s with sched := later }) hl).trans
    (congrArg _ (txByte_cons hq)))

/-- A TX pick per byte sends the queue `b :: q` and frees the framer. -/
theorem run_tx_drains {later : List Choice} (b : Byte) (q : Bytes) (s : State) (hl : s.live = true)
    (hq : s.txQ = b :: q) (hs : s.sched = List.replicate (q.length + 1) .tx ++ later) :
    Host.Core.run core (q.length + 1) s =
      .next { s with sched := later, txQ := [], txOut := s.txOut ++ b :: q, rxSt := .hunt } := by
  induction q generalizing b s with
  | nil => exact run_succ_of_step (step_tx_cons hl hs hq) 0
  | cons b' q ih =>
    have hfirst : s.sched = .tx :: (List.replicate (q.length + 1) .tx ++ later) := hs
    have hout : s.txOut ++ [b] ++ b' :: q = s.txOut ++ b :: b' :: q := by simp
    rw [← hout]
    exact (run_succ_of_step (step_tx_cons hl hfirst hq) _).trans (ih b' _ hl rfl rfl)

/-- Settles O45: a queue that is not empty has a first byte, so it is `run_tx_drains`. -/
theorem txDrainsTheWholeResponse : Obligations.TxDrainsTheWholeResponse := by
  unfold Obligations.TxDrainsTheWholeResponse
  intro s later hl hne hs
  obtain ⟨b, q, hq⟩ := List.exists_cons_of_ne_nil hne
  rw [hq, List.length_cons] at hs ⊢
  exact run_tx_drains b q s hl hq hs

end Sys2Proof.Machine

/-! ## What Decode and Validate accept

Decode cuts a byte string into eight parts. `SpanParts` names them, and each direction of "accepted exactly when" is a
fact about the parts and not about indices. -/

namespace Sys2Proof.Machine

/-! ### A part of a byte string -/

/-- The bytes between two parts are the slice from the end of the first to the start of the second. -/
theorem slice_middle {B A M C : Bytes} {a b : Nat} (hB : B = A ++ (M ++ C)) (ha : A.length = a)
    (hb : a + M.length = b) : slice B a b = M := by
  subst hB ha hb
  simp [slice]

/-- The slice of everything. -/
theorem slice_whole {B : Bytes} {b : Nat} (hb : B.length = b) : slice B 0 b = B := by
  simp [slice, ← hb]

/-! ### The parts -/

/-- The parts of a byte string that Decode finds a frame in (`40_frame_codec.md` R104). -/
structure SpanParts where
  /-- The bytes before the first STX. -/
  pre : Bytes
  /-- The duplicated STX, if there is one. -/
  dup : Bytes
  rid : Byte
  fill : Byte
  len : Byte
  payload : Bytes
  chk : Bytes
  /-- The bytes after the last ETX. -/
  post : Bytes

/-- The parts put together. -/
def SpanParts.bytes (p : SpanParts) : Bytes :=
  p.pre ++ STX :: (p.dup ++ p.rid :: p.fill :: p.len :: (p.payload ++ (p.chk ++ ETX :: p.post)))

/-- The bytes the checksum covers: one STX and all up to the last payload byte (`40_frame_codec.md` R107). -/
def SpanParts.covered (p : SpanParts) : Bytes := STX :: p.rid :: p.fill :: p.len :: p.payload

/-- What Decode reports of the parts. -/
def SpanParts.decoded (p : SpanParts) : DecodedFrame :=
  { payload := p.payload
    h := p.pre.length + 1 + p.dup.length
    len := p.payload.length + 3
    e := p.pre.length + 1 + p.dup.length + p.payload.length + 5 }

/-- The parts are where Decode looks for them, and Length counts the bytes after it (`40_frame_codec.md` R104, R106). -/
structure SpanParts.Legal (p : SpanParts) : Prop where
  pre_no_stx : STX ∉ p.pre
  post_no_etx : ETX ∉ p.post
  one_dup : (p.dup = [] ∧ p.rid ≠ STX) ∨ p.dup = [STX]
  len_eq : p.len.toNat = p.payload.length + 3
  chk_length : p.chk.length = 2

section
variable {p : SpanParts}

theorem SpanParts.bytes_getElem? (i : Nat) : p.bytes[p.pre.length + 1 + i]? =
    (p.dup ++ p.rid :: p.fill :: p.len :: (p.payload ++ (p.chk ++ ETX :: p.post)))[i]? := by
  rw [SpanParts.bytes, List.getElem?_append_right (by omega)]
  simp [show p.pre.length + 1 + i - p.pre.length = i + 1 by omega]

theorem SpanParts.readerIndex_bytes (hp : p.Legal) :
    readerIndex p.bytes p.pre.length = p.pre.length + 1 + p.dup.length := by
  have hnext := SpanParts.bytes_getElem? (p := p) 0
  rcases hp.one_dup with ⟨hdup, hrid⟩ | hdup <;> simp_all [readerIndex]

theorem SpanParts.len_at (p : SpanParts) : p.bytes.getD (p.pre.length + 1 + p.dup.length + 2) 0 = p.len := by
  rw [List.getD_eq_getElem?_getD, Nat.add_assoc (p.pre.length + 1), SpanParts.bytes_getElem?,
    List.getElem?_append_right (by omega)]
  simp

theorem SpanParts.firstIndex_bytes (hp : p.Legal) : firstIndex STX p.bytes = some p.pre.length :=
  firstIndex_eq_some.mpr ⟨p.pre, _, rfl, hp.pre_no_stx, rfl⟩

theorem SpanParts.lastIndex_bytes (hp : p.Legal) : lastIndex ETX (p.bytes.drop (p.pre.length + 1)) =
    some (p.dup.length + p.payload.length + 5) := by
  refine lastIndex_eq_some.mpr
    ⟨p.dup ++ p.rid :: p.fill :: p.len :: (p.payload ++ p.chk), p.post, ?_, hp.post_no_etx, ?_⟩
  · simp [SpanParts.bytes]
  · simp [hp.chk_length]; omega

theorem SpanParts.payload_at (p : SpanParts) :
    slice p.bytes (p.decoded.h + 3) (p.decoded.h + p.decoded.len) = p.payload :=
  slice_middle (A := p.pre ++ STX :: (p.dup ++ [p.rid, p.fill, p.len])) (C := p.chk ++ ETX :: p.post)
    (by simp [SpanParts.bytes]) (by simp [SpanParts.decoded]; omega) (by simp [SpanParts.decoded]; omega)

/-- Decode finds the parts again. -/
theorem SpanParts.frameDecode_bytes (hp : p.Legal) : frameDecode p.bytes = .ok p.decoded := by
  refine frameDecode_eq_ok.mpr ⟨_, _, SpanParts.firstIndex_bytes hp, SpanParts.lastIndex_bytes hp, ?_, ?_, ?_, ?_, ?_,
    ?_, p.payload_at.symm⟩
  · exact (SpanParts.readerIndex_bytes hp).symm
  · simp only [SpanParts.decoded]; omega
  · exact (p.len_at ▸ hp.len_eq).symm
  all_goals simp only [SpanParts.decoded]; omega

/-- Validate compares the two bytes before the last ETX with the checksum of the covered bytes. -/
theorem SpanParts.frameValidate_bytes (hp : p.Legal) :
    frameValidate p.bytes = (p.chk == hexPair (xorBytes p.covered)) := by
  have hchk : slice p.bytes (p.decoded.h + p.decoded.len) (p.decoded.h + p.decoded.len + 2) = p.chk :=
    slice_middle (A := p.pre ++ STX :: (p.dup ++ p.rid :: p.fill :: p.len :: p.payload)) (C := ETX :: p.post)
      (by simp [SpanParts.bytes]) (by simp [SpanParts.decoded]; omega) (by simp [hp.chk_length])
  have hcov : slice p.bytes (p.decoded.h - 1) (p.decoded.h + p.decoded.len) = p.covered := by
    rcases hp.one_dup with ⟨hdup, -⟩ | hdup
    · exact slice_middle (A := p.pre) (C := p.chk ++ ETX :: p.post) (by simp [SpanParts.bytes, SpanParts.covered, hdup])
        (by simp [SpanParts.decoded, hdup]) (by simp [SpanParts.decoded, SpanParts.covered, hdup]; omega)
    · exact slice_middle (A := p.pre ++ [STX]) (C := p.chk ++ ETX :: p.post)
        (by simp [SpanParts.bytes, SpanParts.covered, hdup])
        (by simp [SpanParts.decoded, hdup]) (by simp [SpanParts.decoded, SpanParts.covered, hdup]; omega)
  simp only [frameValidate, SpanParts.frameDecode_bytes hp, checksum, hchk, hcov]

end

/-! ### Every accepted byte string has the parts -/

/-- `n + 3` bytes before two more: the header, a payload of `n` bytes and the two. -/
theorem exists_header_payload_chk {M : Bytes} {n : Nat} (h : M.length = n + 5) :
    ∃ rid fill len P chk, M = rid :: fill :: len :: (P ++ chk) ∧ P.length = n ∧ chk.length = 2 := by
  obtain ⟨rid, fill, len, T, rfl⟩ : ∃ rid fill len T, M = rid :: fill :: len :: T := by
    match M, h with
    | rid :: fill :: len :: T, _ => exact ⟨rid, fill, len, T, rfl⟩
  simp only [List.length_cons] at h
  exact ⟨rid, fill, len, T.take n, T.drop n, by simp, by simp; omega, by simp; omega⟩

/-- The bytes between the first STX and the last ETX, cut before the ReaderId. -/
theorem exists_dup_split (pre inner post : Bytes) : ∃ dup M, inner = dup ++ M ∧
    ((dup = [] ∧ M.head? ≠ some STX) ∨ dup = [STX]) ∧
    readerIndex (pre ++ STX :: (inner ++ ETX :: post)) pre.length = pre.length + 1 + dup.length := by
  by_cases hd : inner.head? = some STX
  · obtain ⟨M, rfl⟩ := List.head?_eq_some_iff.mp hd
    exact ⟨[STX], M, rfl, .inr rfl, by simp [readerIndex]⟩
  · have hne : (pre ++ STX :: (inner ++ ETX :: post))[pre.length + 1]? ≠ some STX := by
      cases inner with
      | nil => simp [STX, ETX]
      | cons b inner => simpa using hd
    exact ⟨[], inner, rfl, .inl ⟨rfl, hd⟩, if_neg hne⟩

/-- A byte string that Decode finds a frame in has the parts. -/
theorem exists_spanParts {B : Bytes} {d : DecodedFrame} (h : frameDecode B = .ok d) :
    ∃ p : SpanParts, p.Legal ∧ p.bytes = B := by
  obtain ⟨s, k, hs, hk, hh, he, hl, -, h3, hfit, -⟩ := frameDecode_eq_ok.mp h
  obtain ⟨pre, T, rfl, hpre, rfl⟩ := firstIndex_eq_some.mp hs
  obtain ⟨inner, post, hT, hpost, rfl⟩ := lastIndex_eq_some.mp hk
  obtain rfl : T = inner ++ ETX :: post := by simpa using hT
  obtain ⟨dup, M, rfl, hdup, hrid⟩ := exists_dup_split pre inner post
  simp only [List.length_append] at he
  obtain ⟨rid, fill, len, P, chk, rfl, hP, hchk⟩ := exists_header_payload_chk (M := M) (n := d.len - 3) (by omega)
  let p : SpanParts := ⟨pre, dup, rid, fill, len, P, chk, post⟩
  have hp : p.bytes = pre ++ STX :: (dup ++ rid :: fill :: len :: (P ++ chk) ++ ETX :: post) := by
    simp [p, SpanParts.bytes]
  have hlen : d.len = len.toNat := by rw [hl, hh, hrid, ← hp, p.len_at]
  exact ⟨p, ⟨hpre, hpost, by simpa using hdup, by simp only [p]; omega, hchk⟩, hp⟩

/-- Acceptance, said of the parts (`40_frame_codec.md` R109). -/
theorem frameAccept_iff_spanParts {B P : Bytes} : frameAccept B = .ok P ↔
    ∃ p : SpanParts, p.Legal ∧ p.bytes = B ∧ p.payload = P ∧ p.chk = hexPair (xorBytes p.covered) := by
  rw [frameAccept_eq_ok]
  constructor
  · rintro ⟨d, hd, hv, hP⟩
    obtain ⟨p, hp, rfl⟩ := exists_spanParts hd
    obtain rfl : p.decoded = d := by simpa [SpanParts.frameDecode_bytes hp] using hd
    exact ⟨p, hp, rfl, hP, by simpa [SpanParts.frameValidate_bytes hp] using hv⟩
  · rintro ⟨p, hp, rfl, hP, hchk⟩
    exact ⟨p.decoded, SpanParts.frameDecode_bytes hp, by simp [SpanParts.frameValidate_bytes hp, hchk], hP⟩

/-- A Length byte holds the count of 3 more than the payload exactly when the payload fits (`30_encoding.md` R71). -/
theorem lengthByte_iff {n : Nat} {b : Byte} : b.toNat = n + 3 ↔ n ≤ 252 ∧ b = BitVec.ofNat 8 (n + 3) := by
  constructor
  · intro h
    exact ⟨by omega, by rw [← h, BitVec.ofNat_toNat, BitVec.setWidth_eq]⟩
  · rintro ⟨h, rfl⟩
    rw [BitVec.toNat_ofNat]; omega

/-- Settles O29: the parts of `frameAccept_iff_spanParts`, written in a row. -/
theorem acceptedSpanIsAWellFormedFrame : Obligations.AcceptedSpanIsAWellFormedFrame := by
  unfold Obligations.AcceptedSpanIsAWellFormedFrame
  intro B P
  rw [frameAccept_iff_spanParts]
  constructor
  · rintro ⟨p, ⟨hpre, hpost, hdup, hlen, -⟩, rfl, rfl, hchk⟩
    obtain ⟨hfit, hlen⟩ := lengthByte_iff.mp hlen
    refine ⟨p.pre, p.dup, p.rid, p.fill, p.post, hpre, hpost, hdup, hfit, ?_⟩
    simp [SpanParts.bytes, hchk, SpanParts.covered, hlen]
  · rintro ⟨pre, dup, rid, fill, post, hpre, hpost, hdup, hfit, rfl⟩
    let len : Byte := BitVec.ofNat 8 (P.length + 3)
    refine ⟨⟨pre, dup, rid, fill, len, P, hexPair (xorBytes (STX :: rid :: fill :: len :: P)), post⟩,
      ⟨hpre, hpost, hdup, lengthByte_iff.mpr ⟨hfit, rfl⟩, rfl⟩, ?_, rfl, rfl⟩
    simp [SpanParts.bytes, len]

/-! ### The frames Encode writes -/

theorem frameBytes_eq (P : Bytes) (rid : Byte) : frameBytes P rid =
    STX :: rid :: FILL :: BitVec.ofNat 8 (P.length + 3) ::
      (P ++ hexPair (xorBytes (STX :: rid :: FILL :: BitVec.ofNat 8 (P.length + 3) :: P)) ++ [ETX]) := by
  rw [frameBytes, checksum, slice_whole (frameCovered_length P rid)]
  simp [frameCovered]

/-- A frame is accepted, unless its reader id looks like a duplicated STX (`40_frame_codec.md` R123). -/
theorem frameAccept_frameBytes {P : Bytes} {rid : Byte} (hfit : P.length ≤ 252) (hrid : rid ≠ 0x02) :
    frameAccept (frameBytes P rid) = .ok P :=
  (acceptedSpanIsAWellFormedFrame _ P).mpr
    ⟨[], [], rid, FILL, [], by simp, by simp, .inl ⟨rfl, hrid⟩, hfit, by simp [frameBytes_eq]⟩

/-- Settles O28: with the duplicate in front, no reader id looks like one. -/
theorem duplicatedStxIsTolerated : Obligations.DuplicatedStxIsTolerated := by
  unfold Obligations.DuplicatedStxIsTolerated
  intro P rid hfit
  exact (acceptedSpanIsAWellFormedFrame _ P).mpr
    ⟨[], [STX], rid, FILL, [], by simp, by simp, .inr rfl, hfit, by simp [frameBytes_eq]⟩

theorem encode_length (i : Instr) : (encode i).length = i.params.length + 1 := rfl

theorem wf_iff_encode_length (i : Instr) : i.wf = true ↔ (encode i).length ≤ 252 := by
  rw [Instr.wf, decide_eq_true_iff, encode_length]
  omega

/-- Settles O26: a frame is accepted, so Decode returns its payload and Validate is true; the payload decodes back. -/
theorem instructionFrameRoundTrip : Obligations.InstructionFrameRoundTrip := by
  unfold Obligations.InstructionFrameRoundTrip
  intro i rid hwf hrid
  have hfit := (wf_iff_encode_length i).mp hwf
  have hacc := frameAccept_frameBytes hfit hrid
  obtain ⟨d, hd, hv, hP⟩ := frameAccept_eq_ok.mp hacc
  exact ⟨_, d, frameEncode_of_le rid hfit, hd, hv, hP, hacc, Laws.decode_encode i⟩

end Sys2Proof.Machine

/-! ## What the decoder selects -/

namespace Sys2Proof.Machine

/-- Every row has the full mask (`30_encoding.md` R94), so it is selected by its pattern alone. -/
theorem selects_iff {r : OpcodeRow} (hr : r ∈ opcodeTable) {id : Byte} : r.selects id = true ↔ id = r.pattern := by
  have hmask : ∀ r ∈ opcodeTable, r.mask = BitVec.allOnes 8 := by simp [opcodeTable]
  rw [OpcodeRow.selects, hmask r hr, BitVec.and_allOnes, beq_iff_eq]

/-- Every row builds an instruction of its own CommandId and of the given params (`30_encoding.md` R77, R87). -/
theorem encode_build {r : OpcodeRow} (hr : r ∈ opcodeTable) (prm : Bytes) :
    encode (r.build prm) = r.pattern :: prm := by
  have hid : ∀ r ∈ opcodeTable, (r.build prm).commandId = r.pattern := by simp [opcodeTable, Instr.commandId]
  rw [encode, hid r hr, opcodeTable_build_params prm r hr]

/-- The ids of the CommandId map (`30_encoding.md` R87). -/
def assignedIds : List Byte := opcodeTable.map OpcodeRow.pattern

/-- The first byte decides: an id of the map decodes by its row, any other is rejected (`30_encoding.md` R88). -/
theorem decode_cons_cases (id : Byte) (prm : Bytes) :
    (id ∈ assignedIds ∧ ∃ r ∈ opcodeTable, r.pattern = id ∧ decode (id :: prm) = .ok (r.build prm)) ∨
    (id ∉ assignedIds ∧ decode (id :: prm) = .error (.unassigned id prm)) := by
  cases hf : opcodeTable.find? (fun r => r.selects id) with
  | some r =>
    have hr := List.mem_of_find?_eq_some hf
    have hsel : r.selects id = true := List.find?_some (p := fun r : OpcodeRow => r.selects id) hf
    have hid : r.pattern = id := ((selects_iff hr).mp hsel).symm
    exact .inl ⟨List.mem_map.mpr ⟨r, hr, hid⟩, r, hr, hid, by simp [decode, hf]⟩
  | none =>
    refine .inr ⟨fun hmem => ?_, by simp [decode, hf]⟩
    obtain ⟨r, hr, hid⟩ := List.mem_map.mp hmem
    exact List.find?_eq_none.mp hf r hr ((selects_iff hr).mpr hid.symm)

theorem exists_decode_iff (id : Byte) (prm : Bytes) : (∃ i, decode (id :: prm) = .ok i) ↔ id ∈ assignedIds := by
  rcases decode_cons_cases id prm with ⟨hmem, r, -, -, hd⟩ | ⟨hmem, hd⟩ <;> simp [hmem, hd]

/-- The ids as the numbers the statements list. -/
theorem mem_assignedIds_iff (id : Byte) : id ∈ assignedIds ↔ id.toNat ∈
    [10, 11, 17, 21, 22, 24, 31, 32, 33, 52, 54, 55, 56, 58, 59, 62, 63, 70, 71, 101, 111, 248, 249, 250] :=
  (List.mem_map_of_injective BitVec.toNat_injective (l := assignedIds)).symm

/-- Settles O24: a row is selected by its pattern alone, and the patterns differ. -/
theorem opcodeRowsDoNotOverlap : Obligations.OpcodeRowsDoNotOverlap := by
  unfold Obligations.OpcodeRowsDoNotOverlap
  refine ⟨?_, fun id prm => (exists_decode_iff id prm).trans (mem_assignedIds_iff id)⟩
  have hdistinct : assignedIds.Nodup := by decide
  refine (List.pairwise_map.mp hdistinct).imp_of_mem ?_
  rintro r q hr hq hne id ⟨hrid, hqid⟩
  exact hne (((selects_iff hr).mp hrid).symm.trans ((selects_iff hq).mp hqid))

theorem encode_of_decode {P : Bytes} {i : Instr} (h : decode P = .ok i) : encode i = P := by
  cases P with
  | nil => cases h
  | cons id prm =>
    rcases decode_cons_cases id prm with ⟨-, r, hr, rfl, hd⟩ | ⟨-, hd⟩
    · obtain rfl : r.build prm = i := by simpa [hd] using h
      exact encode_build hr prm
    · rw [hd] at h; cases h

/-- Settles O25: a row builds what encodes to its pattern and the params, and well-formedness counts those bytes. -/
theorem decodedPayloadReencodes : Obligations.DecodedPayloadReencodes := by
  unfold Obligations.DecodedPayloadReencodes
  intro P i h
  obtain rfl := encode_of_decode h
  exact ⟨rfl, wf_iff_encode_length i⟩

theorem dispatch_of_decode {P : Bytes} {i : Instr} (h : decode P = .ok i) (s : State) :
    dispatch P s = exec i (logReceived i.commandId i.params s) := by
  simp [dispatch, h]

theorem dispatch_unassigned {id : Byte} {prm : Bytes} (h : decode (id :: prm) = .error (.unassigned id prm))
    (s : State) : dispatch (id :: prm) s = .next (noresp (logReceived id prm s)) := by
  simp [dispatch, h]

/-- Settles O22: an id outside the map is rejected, and Dispatch only logs it. -/
theorem silentPayloadsChangeNothing : Obligations.SilentPayloadsChangeNothing := by
  unfold Obligations.SilentPayloadsChangeNothing
  refine fun s => ⟨rfl, fun id prm hid => ?_⟩
  rw [← mem_assignedIds_iff] at hid
  rcases decode_cons_cases id prm with ⟨hmem, -⟩ | ⟨-, hd⟩
  · exact absurd hmem hid
  · rw [dispatch_unassigned hd, logReceived_eq]; rfl

/-- Settles O23: these are the frames Encode writes for reader id 0x96, so they are accepted; the payloads decode by
evaluation. -/
theorem specWordsDecodeToTheirCommands : Obligations.SpecWordsDecodeToTheirCommands := by
  unfold Obligations.SpecWordsDecodeToTheirCommands
  have haccept : ∀ P : Bytes, P.length ≤ 252 → frameAccept (frameBytes P 0x96) = .ok P :=
    fun P hfit => frameAccept_frameBytes hfit (by decide)
  exact ⟨⟨haccept [0x0A] (by decide), by rfl⟩, ⟨haccept [0x18, 0x32] (by decide), by rfl⟩,
    ⟨haccept [0x21, 0x41, 0x42, 0x43, 0x44, 0x45, 0x46, 0x47, 0x48] (by decide), by rfl⟩,
    ⟨haccept [0xFA, 0x44, 0x45, 0x4C] (by decide), by rfl⟩, ⟨haccept [0xF8] (by decide), by rfl⟩⟩

end Sys2Proof.Machine

/-! ## A frame goes through the framer

The bytes of a frame and one RX pick for each are taken in step. The header takes the framer from HUNT to BODY, the
Length byte says how many bytes are left, and the last one completes the span. -/

namespace Sys2Proof.Machine

/-- COMPLETE of a frame runs the instruction of its payload. -/
theorem complete_frame {P : Bytes} {rid : Byte} {i : Instr} (hfit : P.length ≤ 252) (hrid : rid ≠ 0x02)
    (hd : decode P = .ok i) {s : State} (hbuf : s.rxBuf = frameBytes P rid) :
    complete s = exec i { s with
      rxBuf := [], rxRem := 0, evt := s.evt ++ if s.rlogEn then [.received i.commandId i.params] else [] } := by
  have hacc : frameAccept s.rxBuf = .ok P := hbuf ▸ frameAccept_frameBytes hfit hrid
  rw [complete_of_ok hacc, dispatch_of_decode hd, logReceived_eq]

/-- An RX pick gives the first held byte to a framer that is ready for it. -/
theorem step_rx_cons {s : State} {b : Byte} {held : Bytes} {later : List Choice} (hl : s.live = true)
    (hs : s.sched = .rx :: later) (hin : s.rxIn = b :: held) (hr : s.rxSt ≠ .txb) :
    step s = rxByte b { s with sched := later, rxIn := held } :=
  (step_of_sched_cons hs).trans ((runChoice_rx (s := { s with sched := later }) hl).trans (rxPick_cons hr hin))

/-- The last byte of BODY completes the span. -/
theorem rxByte_body_last {s : State} (b : Byte) (hr : s.rxSt = .body) (hrem : s.rxRem = 1) :
    rxByte b s = complete { s with rxBuf := s.rxBuf ++ [b], rxRem := 0 } := by
  rw [rxByte_body b hr, hrem]
  exact if_pos (by decide)

theorem run_one (s : State) : Host.Core.run core 1 s = step s := by
  have hcore : core.step s = step s := rfl
  simp only [Host.Core.run, hcore]
  cases step s <;> rfl

/-! ### Bytes offered with a pick for each -/

/-- `s` with the bytes `bs` held before `held`, and an RX pick for each of them before `later`. -/
def offered (bs held : Bytes) (later : List Choice) (s : State) : State :=
  { s with rxIn := bs ++ held, sched := List.replicate bs.length .rx ++ later }

/-- `s` with the framer in `r`, the span so far `buf`, and `n` bytes of it to come. -/
def collecting (r : RxState) (buf : Bytes) (n : Byte) (s : State) : State :=
  { s with rxSt := r, rxBuf := buf, rxRem := n }

@[simp] theorem collecting_live (r : RxState) (buf : Bytes) (n : Byte) (s : State) :
    (collecting r buf n s).live = s.live := rfl

@[simp] theorem collecting_rxSt (r : RxState) (buf : Bytes) (n : Byte) (s : State) :
    (collecting r buf n s).rxSt = r := rfl

section
variable {s : State} {b : Byte} {bs held : Bytes} {later : List Choice}

theorem step_offered_cons (hl : s.live = true) (hr : s.rxSt ≠ .txb) :
    step (offered (b :: bs) held later s) = rxByte b (offered bs held later s) :=
  step_rx_cons hl rfl rfl hr

/-- A byte that moves the framer on leaves the rest offered. -/
theorem run_offered_cons {t : State} (hl : s.live = true) (hr : s.rxSt ≠ .txb)
    (h : rxByte b (offered bs held later s) = .next (offered bs held later t)) (k : Nat) :
    Host.Core.run core (k + 1) (offered (b :: bs) held later s) = Host.Core.run core k (offered bs held later t) :=
  run_succ_of_step ((step_offered_cons hl hr).trans h) k

/-- The header of a frame opens a span and loads the count of the bytes left (`40_frame_codec.md` R112 to R115). -/
theorem run_offered_header {rid fill len : Byte} (hl : s.live = true) (hr : s.rxSt = .hunt) (hrid : rid ≠ STX)
    (hlen : len ≠ 0) (k : Nat) :
    Host.Core.run core (k + 4) (offered (STX :: rid :: fill :: len :: bs) held later s) =
      Host.Core.run core k (offered bs held later (collecting .body [STX, rid, fill, len] len s)) := by
  have hopen : rxByte STX (offered (rid :: fill :: len :: bs) held later s) =
      .next (offered (rid :: fill :: len :: bs) held later (collecting .stx1 [STX] s.rxRem s)) :=
    (rxByte_hunt STX (s := offered _ held later s) hr).trans (congrArg _ (if_pos rfl))
  have hreader : rxByte rid (offered (fill :: len :: bs) held later (collecting .stx1 [STX] s.rxRem s)) =
      .next (offered (fill :: len :: bs) held later (collecting .ffb [STX, rid] s.rxRem s)) := by
    rw [rxByte_stx1 rid rfl, if_neg hrid]; rfl
  have hfill : rxByte fill (offered (len :: bs) held later (collecting .ffb [STX, rid] s.rxRem s)) =
      .next (offered (len :: bs) held later (collecting .len [STX, rid, fill] s.rxRem s)) :=
    rxByte_ffb fill rfl
  have hcount : rxByte len (offered bs held later (collecting .len [STX, rid, fill] s.rxRem s)) =
      .next (offered bs held later (collecting .body [STX, rid, fill, len] len s)) :=
    (rxByte_len len rfl).trans (if_neg hlen)
  calc Host.Core.run core (k + 4) (offered (STX :: rid :: fill :: len :: bs) held later s)
      = Host.Core.run core (k + 3) (offered (rid :: fill :: len :: bs) held later (collecting .stx1 [STX] s.rxRem s)) :=
        run_offered_cons hl (by simp [hr]) hopen _
    _ = Host.Core.run core (k + 2) (offered (fill :: len :: bs) held later (collecting .ffb [STX, rid] s.rxRem s)) :=
        run_offered_cons (by simp [hl]) (by simp) hreader _
    _ = Host.Core.run core (k + 1) (offered (len :: bs) held later (collecting .len [STX, rid, fill] s.rxRem s)) :=
        run_offered_cons (by simp [hl]) (by simp) hfill _
    _ = Host.Core.run core k (offered bs held later (collecting .body [STX, rid, fill, len] len s)) :=
        run_offered_cons (by simp [hl]) (by simp) hcount _

/-- In BODY the bytes left go into the buffer, and the last one completes the span (`40_frame_codec.md` R116). -/
theorem run_offered_body {buf : Bytes} {n : Byte} (hl : s.live = true) (hn : n.toNat = bs.length + 1) :
    Host.Core.run core (bs.length + 1) (offered (b :: bs) held later (collecting .body buf n s)) =
      complete (offered [] held later (collecting .body (buf ++ b :: bs) 0 s)) := by
  induction bs generalizing b buf n with
  | nil =>
    have hlast : n = 1 := BitVec.eq_of_toNat_eq hn
    exact (run_one _).trans ((step_offered_cons (by simp [hl]) (by simp)).trans (rxByte_body_last b rfl hlast))
  | cons b' bs ih =>
    have hn' : (n - 1).toNat = bs.length + 1 := by simp only [List.length_cons] at hn; bv_omega
    have hmore : n - 1 ≠ 0 := fun h => by rw [h] at hn'; simp at hn'
    have htake : rxByte b (offered (b' :: bs) held later (collecting .body buf n s)) =
        .next (offered (b' :: bs) held later (collecting .body (buf ++ [b]) (n - 1) s)) :=
      (rxByte_body b rfl).trans (if_neg hmore)
    rw [List.append_cons]
    exact (run_offered_cons (by simp [hl]) (by simp) htake _).trans (ih hn')

/-- A frame offered to a block that hunts is cut into one span, and its last byte completes it. -/
theorem run_offered_frame {P : Bytes} {rid : Byte} (hfit : P.length ≤ 252) (hrid : rid ≠ 0x02) (hl : s.live = true)
    (hr : s.rxSt = .hunt) :
    Host.Core.run core (frameBytes P rid).length (offered (frameBytes P rid) held later s) =
      complete (offered [] held later (collecting .body (frameBytes P rid) 0 s)) := by
  obtain ⟨len, body, hf, hlen, hbody⟩ : ∃ len body, frameBytes P rid = STX :: rid :: FILL :: len :: body ∧
      len.toNat = P.length + 3 ∧ body.length = P.length + 3 :=
    ⟨_, _, frameBytes_eq P rid, lengthByte_iff.mpr ⟨hfit, rfl⟩, by simp⟩
  have hne : len ≠ 0 := by rintro rfl; simp at hlen
  obtain ⟨b, bs, rfl⟩ := List.exists_cons_of_length_pos (l := body) (by omega)
  rw [hf]
  exact (run_offered_header hl hr hrid hne _).trans (run_offered_body hl (hlen.trans hbody.symm))

end

/-- Settles O42: the frame goes through the framer and is completed (`run_offered_frame`, `complete_frame`). -/
theorem framerDeliversTheInstruction : Obligations.FramerDeliversTheInstruction := by
  unfold Obligations.FramerDeliversTheInstruction
  intro i rid s held later hwf hrid hl hr hbuf hrem hin hsched
  have hfit := (wf_iff_encode_length i).mp hwf
  have hs : s = offered (frameBytes (encode i) rid) held later s := by rw [offered, ← hin, ← hsched]
  have hrun := run_offered_frame (s := s) (held := held) (later := later) hfit hrid hl hr
  rw [← hs] at hrun
  refine hrun.trans ?_
  calc complete (offered [] held later (collecting .body (frameBytes (encode i) rid) 0 s))
      = exec i { s with
          sched := later, rxIn := held, rxSt := .body, rxBuf := [], rxRem := 0,
          evt := s.evt ++ if s.rlogEn then [.received i.commandId i.params] else [] } :=
        complete_frame hfit hrid (Laws.decode_encode i) rfl
    _ = _ := by rw [hbuf, hrem]

/-! ### The frame `withFetchWord` places -/

theorem payloadOfWord_length (nbits w : Nat) : (payloadOfWord nbits w).length = (nbits + 7) / 8 := by
  simp [payloadOfWord]

theorem decodeTableWord_eq_some {nbits w : Nat} {i : Instr} :
    decodeTableWord nbits w = some i ↔ decode (payloadOfWord nbits w) = .ok i := by
  unfold decodeTableWord
  cases decode (payloadOfWord nbits w) <;> simp

/-- Settles O43: the placed block is one byte before the end of a frame, so the step completes it (`complete_frame`). -/
theorem fetchWordRunsTheInstruction : Obligations.FetchWordRunsTheInstruction := by
  unfold Obligations.FetchWordRunsTheInstruction
  intro s nbits w i hbits hi
  have hfit : (payloadOfWord nbits w).length ≤ 252 := by rw [payloadOfWord_length]; omega
  have hready : (s.withFetchWord nbits w).rxSt ≠ .txb := by simp [State.withFetchWord, withFrame]
  calc step (s.withFetchWord nbits w)
      = rxByte ETX { s.withFetchWord nbits w with sched := s.sched, rxIn := s.rxIn } := step_rx_cons rfl rfl rfl hready
    _ = complete { s with live := true, rxSt := .body, rxBuf := frameBytes (payloadOfWord nbits w) fetchReaderId,
                          rxRem := 0, txQ := [] } := rxByte_body_last ETX rfl rfl
    _ = _ := complete_frame hfit (by decide) (decodeTableWord_eq_some.mp hi) rfl

end Sys2Proof.Machine

/-! ## What the block answers

The responses of `30_encoding.md` R86 byte by byte: every digit is ASCII, a stamp is 14 bytes, and CHECK_TIME reads back
what `stamp` writes. -/

namespace Sys2Proof.Machine

/-! ### CHECK_TIME reads what GET_TIME writes -/

/-- A field of `w` digits after the part `A` reads back to its value. -/
theorem num_of_prefix {P A : Bytes} {a w v : Nat} (hP : A ++ dec v w <+: P) (ha : A.length = a) (hv : v < 10 ^ w) :
    num? P a w = some v := by
  obtain ⟨C, rfl⟩ := hP
  have hlen := dec_length_of_lt hv
  refine num_eq_some.mpr ⟨by simp only [List.length_append]; omega, hv, ?_⟩
  rw [slice_middle (List.append_assoc A _ C) ha (by rw [hlen]), dec_of_lt hv]

theorem daysIn_le (m y : Nat) : daysIn m y ≤ 31 := by
  unfold daysIn; split_ifs <;> omega

/-- The bounds of a valid DateTime's fields that make each fit two digits. -/
theorem validDateTime_fields {t : DateTime} (h : validDateTime t = true) :
    t.hour ≤ 23 ∧ t.minute ≤ 59 ∧ t.second ≤ 59 ∧ t.day ≤ 31 ∧ t.month ≤ 12 := by
  simp only [validDateTime, validDate, Bool.and_eq_true, decide_eq_true_eq] at h
  have hdays := daysIn_le t.month t.year
  omega

theorem fmt2_length {v : Nat} (h : v < 100) : (fmt2 v).length = 2 := dec_length_of_lt h

/-- The time of a stamp parses to the time. -/
theorem parseHms_stamp {t : DateTime} (h : validDateTime t = true) :
    parseHms (stamp t) 0 = some ⟨t.hour, t.minute, t.second⟩ := by
  obtain ⟨hh, hmi, hs, -, -⟩ := validDateTime_fields h
  have hhour : num? (stamp t) 0 2 = some t.hour :=
    num_of_prefix (A := []) (by simp [stamp, fmt2]) rfl (by omega)
  have hminute : num? (stamp t) 2 2 = some t.minute :=
    num_of_prefix (A := fmt2 t.hour) (by simp [stamp, fmt2]) (fmt2_length (by omega)) (by omega)
  have hsecond : num? (stamp t) 4 2 = some t.second :=
    num_of_prefix (A := fmt2 t.hour ++ fmt2 t.minute) (by simp [stamp, fmt2])
      (by rw [List.length_append, fmt2_length (by omega), fmt2_length (by omega)]) (by omega)
  simp only [parseHms, Nat.zero_add, hhour, hminute, hsecond]
  exact if_neg (by omega)

/-- What stands before the date in a stamp: the time, the filler and the weekday digit (`41_dispatch.md` R154). -/
def stampFront (t : DateTime) : Bytes :=
  fmt2 t.hour ++ fmt2 t.minute ++ fmt2 t.second ++ [0x30] ++ [digitByte (isoWeekday t.year t.month t.day)]

theorem stamp_eq (t : DateTime) : stamp t = stampFront t ++ fmt2 t.day ++ fmt2 t.month ++ fmt2 (t.year % 100) := rfl

theorem stampFront_length {t : DateTime} (h : validDateTime t = true) : (stampFront t).length = 8 := by
  obtain ⟨hh, hmi, hs, -, -⟩ := validDateTime_fields h
  simp (disch := omega) [stampFront, fmt2_length]

/-- The date of a stamp parses to the date. -/
theorem parseDmy2_stamp {t : DateTime} (h : validDateTime t = true) (hlo : 2000 ≤ t.year) (hhi : t.year ≤ 2099) :
    parseDmy2 (stamp t) 8 = some ⟨t.day, t.month, t.year⟩ := by
  obtain ⟨-, -, -, hd, hmo⟩ := validDateTime_fields h
  have hfront := stampFront_length h
  have hday : num? (stamp t) 8 2 = some t.day :=
    num_of_prefix (A := stampFront t) (by simp [stamp_eq, fmt2]) hfront (by omega)
  have hmonth : num? (stamp t) 10 2 = some t.month :=
    num_of_prefix (A := stampFront t ++ fmt2 t.day) (by simp [stamp_eq, fmt2])
      (by rw [List.length_append, hfront, fmt2_length (by omega)]) (by omega)
  have hyear : num? (stamp t) 12 2 = some (t.year % 100) :=
    num_of_prefix (A := stampFront t ++ fmt2 t.day ++ fmt2 t.month) (by simp [stamp_eq, fmt2])
      (by rw [List.length_append, List.length_append, hfront, fmt2_length (by omega), fmt2_length (by omega)])
      (by omega)
  have hcentury : 2000 + t.year % 100 = t.year := by omega
  have hvalid : validDate t.day t.month t.year = true := (Bool.and_eq_true_iff.mp h).1
  simp only [parseDmy2, hday, hmonth, hyear, hcentury]
  exact if_pos hvalid

theorem stamp_weekday {t : DateTime} (h : validDateTime t = true) :
    (stamp t)[7]? = some (digitByte (isoWeekday t.year t.month t.day)) := by
  have hfront := stampFront_length h
  have hlast : (stampFront t)[7]? = (stampFront t).getLast? := by rw [List.getLast?_eq_getElem?, hfront]
  rw [stamp_eq, List.append_assoc, List.append_assoc, List.getElem?_append_left (by omega), hlast]
  simp [stampFront]

/-- Settles O38: the stamp is 14 bytes, its fields parse to the clock's, and it carries that day's weekday digit. -/
theorem echoedTimeIsAccepted : Obligations.EchoedTimeIsAccepted := by
  unfold Obligations.EchoedTimeIsAccepted
  intro t s h hlo hhi
  have hagrees : timeAgrees (stamp t) = true := by
    simp only [timeAgrees, stamp_length h, ne_eq, not_true_eq_false, if_false, parseHms_stamp h,
      parseDmy2_stamp h hlo hhi, stamp_weekday h, beq_self_eq_true]
  simp only [exec, execCheckTime, hagrees, if_true, respond_OK]
  rfl

/-! ### Every response is ASCII and fits -/

/-- Every byte is ASCII (`30_encoding.md` R86). -/
def Ascii (P : Bytes) : Prop := ∀ b ∈ P, b.toNat < 128

theorem Ascii.append {P Q : Bytes} (hP : Ascii P) (hQ : Ascii Q) : Ascii (P ++ Q) :=
  fun b hb => (List.mem_append.mp hb).elim (hP b) (hQ b)

theorem ascii_digit {d : Nat} (h : d < 10) : Ascii [digitByte d] := by
  intro b hb
  obtain rfl := List.mem_singleton.mp hb
  rw [digitByte_toNat h]; omega

theorem ascii_lowDigits (w v : Nat) : Ascii (lowDigits w v) := by
  induction w generalizing v with
  | zero => simp [lowDigits, Ascii]
  | succ w ih => exact (ih _).append (ascii_digit (by omega))

theorem ascii_allDigits (fuel v : Nat) : Ascii (allDigits fuel v) := by
  induction fuel generalizing v with
  | zero => simp [allDigits, Ascii]
  | succ fuel ih =>
    unfold allDigits
    split
    · simp [Ascii]
    · exact (ih _).append (ascii_digit (by omega))

theorem ascii_dec (v w : Nat) : Ascii (dec v w) := (ascii_allDigits _ _).append (ascii_lowDigits w v)

theorem ascii_stamp (t : DateTime) : Ascii (stamp t) := by
  have hweekday : Ascii [digitByte (isoWeekday t.year t.month t.day)] :=
    ascii_digit (Nat.lt_of_le_of_lt (isoWeekday_range _ _ _).2 (by omega))
  have hfiller : Ascii [0x30] := by simp [Ascii]
  exact (((((((ascii_dec _ _).append (ascii_dec _ _)).append (ascii_dec _ _)).append hfiller).append hweekday).append
    (ascii_dec _ _)).append (ascii_dec _ _)).append (ascii_dec _ _)

/-- A payload a peer may get: 1 to 252 ASCII bytes. -/
structure Sendable (P : Bytes) : Prop where
  pos : 1 ≤ P.length
  le : P.length ≤ 252
  ascii : Ascii P

theorem sendable_OK : Sendable OK := ⟨by decide, by decide, by simp [Ascii, OK]⟩
theorem sendable_ERR : Sendable ERR := ⟨by decide, by decide, by simp [Ascii, ERR]⟩
theorem sendable_PERR : Sendable PERR := ⟨by decide, by decide, by simp [Ascii, PERR]⟩
theorem sendable_EMPTY_CARD : Sendable EMPTY_CARD := ⟨by decide, by decide, by simp [Ascii, EMPTY_CARD]⟩
theorem sendable_FILLED_CARD : Sendable FILLED_CARD := ⟨by decide, by decide, by simp [Ascii, FILLED_CARD]⟩

theorem injectable_eq_true {ts : DateTime} {cid : Bytes} (h : injectable ts cid = true) :
    validDateTime ts = true ∧ cid.length ≤ 225 ∧ Ascii cid := by
  simp only [injectable, Bool.and_eq_true, decide_eq_true_eq, List.all_eq_true] at h
  obtain ⟨⟨hts, -, hlen⟩, hprint⟩ := h
  have hmax : Config.maxAttCardId ≤ 225 := Config.maxAttCardIdLessOne.isLt
  exact ⟨hts, hlen.trans hmax, fun b hb => by have := hprint b hb; omega⟩

/-- The longest response: an entry with a card id of 225 bytes has 252. -/
theorem sendable_entryPayload {a : Attendance} (h : attendanceOk a = true) : Sendable (entryPayload a) := by
  obtain ⟨hts, hlen, hcard⟩ := injectable_eq_true h
  have htotal : (entryPayload a).length = 27 + a.cardId.length := by
    simp only [entryPayload, List.length_append, stamp_length hts, List.length_cons, List.length_nil]; omega
  exact ⟨by omega, by omega,
    ((Ascii.append (by simp [Ascii]) (ascii_stamp _)).append hcard).append (by simp [Ascii])⟩

theorem sendable_timePayload {t : DateTime} (h : validDateTime t = true) : Sendable (timePayload t) := by
  have htotal : (timePayload t).length = 15 := by simp [timePayload, stamp_length h]
  exact ⟨by omega, by omega, Ascii.append (by simp [Ascii]) (ascii_stamp t)⟩

theorem sendable_count5Payload {n : Nat} (h : n ≤ Config.maxPersons) : Sendable (count5Payload n) := by
  have hmax : Config.maxPersons ≤ 99999 := Config.maxPersonsLessOne.isLt
  have htotal : (count5Payload n).length = 6 := by simp [count5Payload, dec_length_of_lt (v := n) (w := 5) (by omega)]
  exact ⟨by omega, by omega, Ascii.append (by simp [Ascii]) (ascii_dec n 5)⟩

theorem sendable_count10x2Payload {n c : Nat} (hn : n ≤ Config.maxLog) (hc : c ≤ n) :
    Sendable (count10x2Payload n c) := by
  have hmax : Config.maxLog ≤ 4294967295 := Config.maxLogLessOne.isLt
  have htotal : (count10x2Payload n c).length = 21 := by
    simp [count10x2Payload, dec_length_of_lt (v := n) (w := 10) (by omega),
      dec_length_of_lt (v := c) (w := 10) (by omega)]
  exact ⟨by omega, by omega, (Ascii.append (by simp [Ascii]) (ascii_dec n 10)).append (ascii_dec c 10)⟩

/-! ### Which response each command sends -/

/-- The command ends with a response that may be sent, framed with the latched reader id. -/
def Answers (i : Instr) (s : State) : Prop :=
  ∃ P u, Sendable P ∧ u.ridReg = s.ridReg ∧ exec i s = .next (respond P u)

section
variable {s : State} (prm : Bytes)

theorem readCard_answers (hs : BlockInv s) : Answers (.readCard prm) s := by
  cases hp : pendingRecord s with
  | some a =>
    have hok : attendanceOk a = true := hs.log_ok a (List.mem_of_getElem? hp)
    exact ⟨entryPayload a, s, sendable_entryPayload hok, rfl, by simp only [exec, execReadCard, hp]⟩
  | none =>
    by_cases ho : s.workType = .offline
    · exact ⟨EMPTY_CARD, s, sendable_EMPTY_CARD, rfl, by simp only [exec, execReadCard, hp, if_pos ho]⟩
    · by_cases hr : s.rndEn = true
      · refine ⟨if rndNow s then FILLED_CARD else EMPTY_CARD, rndDrawn s, ?_, rfl,
          by simp only [exec, execReadCard, hp, if_neg ho, if_pos hr]⟩
        split
        · exact sendable_FILLED_CARD
        · exact sendable_EMPTY_CARD
      · exact ⟨EMPTY_CARD, s, sendable_EMPTY_CARD, rfl, by simp only [exec, execReadCard, hp, if_neg ho, if_neg hr]⟩

theorem accessEvent_answers : Answers (.accessEvent prm) s := by
  by_cases hg : prm.head? = some 0x2B
  · exact ⟨OK, emit (accessGrantedEvent prm) s, sendable_OK, rfl, by simp only [exec, execAccessEvent, if_pos hg]⟩
  · by_cases hd : prm.head? = some 0x2D
    · exact ⟨OK, emit .accessDenied s, sendable_OK, rfl, by simp only [exec, execAccessEvent, if_neg hg, if_pos hd]⟩
    · exact ⟨PERR, s, sendable_PERR, rfl, by simp only [exec, execAccessEvent, if_neg hg, if_neg hd]⟩

theorem checkTime_answers : Answers (.checkTime prm) s := by
  refine ⟨if timeAgrees prm then OK else ERR, s, ?_, rfl, rfl⟩
  split
  · exact sendable_OK
  · exact sendable_ERR

theorem setWorkType_answers : Answers (.setWorkType prm) s := by
  cases hw : workTypeParam prm with
  | some w => exact ⟨OK, { s with workType := w }, sendable_OK, rfl, by simp only [exec, execSetWorkType, hw]⟩
  | none => exact ⟨ERR, s, sendable_ERR, rfl, by simp only [exec, execSetWorkType, hw]⟩

theorem setProtocolMode_answers : Answers (.setProtocolMode prm) s := by
  cases hm : protocolModeParam prm with
  | some m => exact ⟨OK, { s with protocolMode := m }, sendable_OK, rfl, by simp only [exec, execSetProtocolMode, hm]⟩
  | none => exact ⟨ERR, s, sendable_ERR, rfl, by simp only [exec, execSetProtocolMode, hm]⟩

theorem addPerson_answers : Answers (.addPerson prm) s := by
  cases hp : personParam prm with
  | none => exact ⟨ERR, s, sendable_ERR, rfl, by simp only [exec, execAddPerson, hp]⟩
  | some p =>
    by_cases hf : rosterCount s = Config.maxPersons
    · exact ⟨ERR, s, sendable_ERR, rfl, by simp only [exec, execAddPerson, hp, if_pos hf]⟩
    · exact ⟨OK, rosterAppend p s, sendable_OK, rfl, by simp only [exec, execAddPerson, hp, if_neg hf]⟩

theorem clearLog_answers : Answers (.clearLog prm) s := by
  cases hd : isDel prm with
  | true => exact ⟨OK, resetLog s, sendable_OK, rfl, by simp [exec, execClearLog, hd]⟩
  | false => exact ⟨ERR, s, sendable_ERR, rfl, by simp [exec, execClearLog, hd]⟩

end

/-- In a good block with a valid clock every command but ACK_LOG answers (`40_frame_codec.md` R121, R122). -/
theorem answers_of_ne_ackLog {i : Instr} {s : State} (hs : BlockInv s) (ht : validDateTime (rtcNow s) = true)
    (hi : ∀ prm, i ≠ .ackLog prm) : Answers i s := by
  cases i with
  | ackLog prm => exact absurd rfl (hi prm)
  | readCard prm => exact readCard_answers prm hs
  | accessEvent prm => exact accessEvent_answers prm
  | checkTime prm => exact checkTime_answers prm
  | setWorkType prm => exact setWorkType_answers prm
  | setProtocolMode prm => exact setProtocolMode_answers prm
  | addPerson prm => exact addPerson_answers prm
  | clearLog prm => exact clearLog_answers prm
  | getTime _ => exact ⟨_, rtcSampled s, sendable_timePayload ht, rfl, rfl⟩
  | personCount _ => exact ⟨_, s, sendable_count5Payload hs.persons_le_max, rfl, rfl⟩
  | logStatus _ => exact ⟨_, s, sendable_count10x2Payload hs.log_le_max hs.cursor_le_log, rfl, rfl⟩
  | ping _ => exact ⟨OK, s, sendable_OK, rfl, rfl⟩
  | clearPersons _ => exact ⟨OK, rosterClear s, sendable_OK, rfl, rfl⟩
  | delPerson prm => exact ⟨OK, rosterRemoveAll prm s, sendable_OK, rfl, rfl⟩
  | mifare52 _ => exact ⟨EMPTY_CARD, s, sendable_EMPTY_CARD, rfl, rfl⟩
  | mifare54 _ | mifare55 _ | mifare56 _ | mifare58 _ | mifare59 _ | mifare62 _ | mifare63 _ | mifare70 _
  | mifare71 _ => exact ⟨ERR, s, sendable_ERR, rfl, rfl⟩

/-- ACK_LOG ends silently (`42_commands.md` R196). -/
theorem ackLog_silent {prm : Bytes} {s t : State} (h : exec (.ackLog prm) s = .next t) :
    t.txQ = s.txQ ∧ t.rxSt = .hunt := by
  obtain rfl := next_unique h rfl
  refine ⟨?_, rfl⟩
  by_cases hp : logLen s > s.readCursor.toNat
  · rw [if_pos hp]; rfl
  · rw [if_neg hp]; rfl

/-- Settles O20: ACK_LOG is silent, and any other command's response is sendable, so it is framed and loaded. -/
theorem oneAsciiResponseOrNone : Obligations.OneAsciiResponseOrNone := by
  unfold Obligations.OneAsciiResponseOrNone
  intro i s t hs ht h
  by_cases hack : ∃ prm, i = .ackLog prm
  · obtain ⟨prm, rfl⟩ := hack
    exact .inl ⟨⟨prm, rfl⟩, ackLog_silent h⟩
  · have hi : ∀ prm, i ≠ .ackLog prm := not_exists.mp hack
    obtain ⟨P, u, hP, hrid, hexec⟩ := answers_of_ne_ackLog hs ht hi
    obtain rfl := next_unique h hexec
    rw [respond_of_le u hP.le]
    exact .inr ⟨hi, rfl, P, hP.pos, hP.le, hP.ascii, by rw [answered_txQ, hrid]⟩

end Sys2Proof.Machine

/-! ## What a span is dropped with

Decode names the first thing it misses, and a changed byte shows in the checksum (`40_frame_codec.md` R100 to R107). -/

namespace Sys2Proof.Machine

/-! ### The errors of Decode -/

section
variable {B : Bytes}

theorem frameDecode_of_no_stx (h : STX ∉ B) : frameDecode B = .error .missingStart := by
  simp [frameDecode, firstIndex_eq_none.mpr h]

theorem frameDecode_of_no_etx {pre post : Bytes} (hpre : STX ∉ pre) (hpost : ETX ∉ post) :
    frameDecode (pre ++ STX :: post) = .error .missingEnd := by
  have hs : firstIndex STX (pre ++ STX :: post) = some pre.length := firstIndex_eq_some.mpr ⟨pre, post, rfl, hpre, rfl⟩
  have hrest : (pre ++ STX :: post).drop (pre.length + 1) = post := by simp
  simp only [frameDecode, hs, hrest, lastIndex_eq_none.mpr hpost]

/-- The Length checks name TRUNCATED, or LENGTH_MISMATCH where bytes are left before the last ETX. -/
theorem frameCheck_eq_error {h e : Nat} {c : FrameError} (hc : frameCheck B h e = .error c) :
    c = .truncated ∨ (c = .lengthMismatch ∧ h + (B.getD (h + 2) 0).toNat + 2 < e) := by
  unfold frameCheck at hc
  dsimp only at hc
  split_ifs at hc
  · exact .inl (Except.error.inj hc).symm
  · exact .inl (Except.error.inj hc).symm
  · exact .inl (Except.error.inj hc).symm
  · next hlt => exact .inr ⟨(Except.error.inj hc).symm, hlt⟩

/-- Everything Decode says when it does not accept. -/
theorem frameDecode_eq_error {c : FrameError} (hc : frameDecode B = .error c) :
    (c = .missingStart ∧ STX ∉ B) ∨
    (c = .missingEnd ∧ ∃ pre post, B = pre ++ STX :: post ∧ STX ∉ pre ∧ ETX ∉ post) ∨
    c = .truncated ∨
    (c = .lengthMismatch ∧ ∃ s k, firstIndex STX B = some s ∧ lastIndex ETX (B.drop (s + 1)) = some k ∧
      readerIndex B s + (B.getD (readerIndex B s + 2) 0).toNat + 2 < s + 1 + k) := by
  cases hs : firstIndex STX B with
  | none =>
    have hno := firstIndex_eq_none.mp hs
    rw [frameDecode_of_no_stx hno] at hc
    exact .inl ⟨(Except.error.inj hc).symm, hno⟩
  | some s =>
    cases hk : lastIndex ETX (B.drop (s + 1)) with
    | none =>
      obtain ⟨pre, post, rfl, hpre, rfl⟩ := firstIndex_eq_some.mp hs
      have hpost : ETX ∉ post := by simpa using lastIndex_eq_none.mp hk
      rw [frameDecode_of_no_etx hpre hpost] at hc
      exact .inr (.inl ⟨(Except.error.inj hc).symm, pre, post, rfl, hpre, hpost⟩)
    | some k =>
      have hcheck : frameCheck B (readerIndex B s) (s + 1 + k) = .error c := by
        simpa only [frameDecode, hs, hk] using hc
      rcases frameCheck_eq_error hcheck with h | ⟨h, hlt⟩
      · exact .inr (.inr (.inl h))
      · exact .inr (.inr (.inr ⟨h, s, k, rfl, hk, hlt⟩))

end

/-- Settles O30: `frameDecode_eq_error` says when these errors are named, and without the delimiter they are. -/
theorem missingDelimitersAreNamed : Obligations.MissingDelimitersAreNamed := by
  unfold Obligations.MissingDelimitersAreNamed
  refine fun B => ⟨⟨fun h => ?_, frameDecode_of_no_stx⟩, ⟨fun h => ?_, ?_⟩⟩
  · simpa using frameDecode_eq_error h
  · simpa using frameDecode_eq_error h
  · rintro ⟨pre, post, rfl, hpre, hpost⟩
    exact frameDecode_of_no_etx hpre hpost

/-! ### The checksum of a changed byte (`40_frame_codec.md` R100) -/

/-- A byte replaced changes the XOR by the difference of the two bytes. -/
theorem xorBytes_set {B : Bytes} {k : Nat} (hk : k < B.length) (c : Byte) :
    xorBytes (B.set k c) = xorBytes B ^^^ (B[k] ^^^ c) := by
  induction B generalizing k with
  | nil => simp at hk
  | cons b B ih =>
    cases k with
    | zero =>
      simp only [List.set_cons_zero, xorBytes, List.getElem_cons_zero]
      rw [BitVec.xor_comm b (xorBytes B), BitVec.xor_assoc, ← BitVec.xor_assoc b, BitVec.xor_self, BitVec.zero_xor,
        BitVec.xor_comm]
    | succ k =>
      simp only [List.set_cons_succ, xorBytes, List.getElem_cons_succ, ih (Nat.lt_of_succ_lt_succ hk), BitVec.xor_assoc]

theorem xorBytes_set_ne {B : Bytes} {k : Nat} {c : Byte} (hk : k < B.length) (hne : B[k] ≠ c) :
    xorBytes (B.set k c) ≠ xorBytes B := by
  rw [xorBytes_set hk]
  intro h
  have hdiff : B[k] ^^^ c = 0 := by simpa using h
  exact hne (BitVec.xor_eq_zero_iff.mp hdiff)

theorem slice_set {B : Bytes} {a k : Nat} (hk : a ≤ k) (b : Nat) (c : Byte) :
    slice (B.set k c) a b = (slice B a b).set (k - a) c := by
  rw [slice, slice, List.drop_set, if_neg (Nat.not_lt.mpr hk), List.take_set]

theorem slice_append_slice {B : Bytes} {a c b : Nat} (hac : a ≤ c) (hcb : c ≤ b) :
    slice B a b = slice B a c ++ slice B c b := by
  have hlen : b - a = (c - a) + (b - c) := by omega
  have hdrop : (B.drop a).drop (c - a) = B.drop c := by rw [List.drop_drop]; congr 1; omega
  rw [slice, hlen, List.take_add, hdrop]
  rfl

/-- Settles O32: the span of a changed string is the changed span (`slice_set`), and a split span is two slices. -/
theorem checksumFollowsEveryFlip : Obligations.ChecksumFollowsEveryFlip := by
  unfold Obligations.ChecksumFollowsEveryFlip
  refine fun B a b hab hb => ⟨by simp [checksum, slice, xorBytes], fun k m hak hkb => ?_, fun c hac hcb => ?_⟩
  · have hin : k - a < (slice B a b).length := by rw [slice_length]; omega
    have hold : (slice B a b)[k - a] = B.getD k 0 := by
      simp [slice, List.getD_eq_getElem?_getD, show a + (k - a) = k by omega, show k < B.length by omega]
    rw [checksum, slice_set hak, xorBytes_set hin, hold, ← BitVec.xor_assoc (B.getD k 0), BitVec.xor_self,
      BitVec.zero_xor]
    rfl
  · rw [checksum, slice_append_slice hac hcb, xorBytes_append]
    rfl

/-! ### A tampered frame (`40_frame_codec.md` R107) -/

/-- Decode finds the parts, but the two checksum bytes are not those of the covered bytes. -/
theorem SpanParts.frameAccept_checksumMismatch {p : SpanParts} (hp : p.Legal)
    (hchk : p.chk ≠ hexPair (xorBytes p.covered)) : frameAccept p.bytes = .error .checksumMismatch := by
  have hv : frameValidate p.bytes = false := by
    rw [SpanParts.frameValidate_bytes hp]
    exact beq_false_of_ne hchk
  simp [frameAccept, SpanParts.frameDecode_bytes hp, hv]

/-- A byte of ReaderId, fill or payload replaced leaves the parts in their places, unless the ReaderId becomes an
STX. -/
theorem exists_frameCovered_set (P : Bytes) {rid : Byte} (hrid : rid ≠ STX) {k : Nat} {b : Byte}
    (hk : (k = 1 ∧ b ≠ STX) ∨ k = 2 ∨ (4 ≤ k ∧ k < 4 + P.length)) :
    ∃ rid' fill' P', (frameCovered P rid).set k b = STX :: rid' :: fill' :: BitVec.ofNat 8 (P.length + 3) :: P' ∧
      rid' ≠ STX ∧ P'.length = P.length := by
  rcases hk with ⟨rfl, hb⟩ | rfl | ⟨h4, -⟩
  · exact ⟨b, FILL, P, rfl, hb, rfl⟩
  · exact ⟨rid, b, P, rfl, hrid, rfl⟩
  · obtain ⟨j, rfl⟩ := Nat.exists_eq_add_of_le' h4
    exact ⟨rid, FILL, P.set j b, rfl, hrid, List.length_set⟩

theorem frameBytes_eq_covered (P : Bytes) (rid : Byte) :
    frameBytes P rid = frameCovered P rid ++ (hexPair (xorBytes (frameCovered P rid)) ++ [ETX]) := by
  rw [frameBytes, checksum, slice_whole (frameCovered_length P rid), List.append_assoc]

/-- Settles O31: Decode still finds the parts, and the XOR of the covered bytes is another one (`xorBytes_set_ne`). -/
theorem tamperedFrameFailsItsChecksum : Obligations.TamperedFrameFailsItsChecksum := by
  unfold Obligations.TamperedFrameFailsItsChecksum
  intro P rid k b hfit hrid hk hold
  have hlt : k < (frameCovered P rid).length := by rw [frameCovered_length]; omega
  have hne : (frameCovered P rid)[k] ≠ b := by
    simpa [frameBytes_eq_covered, List.getElem?_append_left hlt, List.getElem?_eq_getElem hlt] using hold
  obtain ⟨rid', fill', P', hset, hrid', hlen⟩ := exists_frameCovered_set P hrid hk
  let p : SpanParts :=
    ⟨[], [], rid', fill', BitVec.ofNat 8 (P.length + 3), P', hexPair (xorBytes (frameCovered P rid)), []⟩
  have hcovered : p.covered = (frameCovered P rid).set k b := hset.symm
  have hbytes : p.bytes = (frameBytes P rid).set k b := by
    rw [frameBytes_eq_covered, List.set_append_left _ _ hlt, ← hcovered]
    simp [SpanParts.bytes, SpanParts.covered, p]
  have hcount : p.len.toNat = p.payload.length + 3 := hlen ▸ lengthByte_iff.mpr ⟨hfit, rfl⟩
  have hp : p.Legal := ⟨by simp [p], by simp [p], .inl ⟨rfl, hrid'⟩, hcount, rfl⟩
  rw [← hbytes]
  refine SpanParts.frameAccept_checksumMismatch hp fun hchk => xorBytes_set_ne hlt hne ?_
  rw [← hcovered]
  exact (hexPair_injective hchk).symm

/-- Settles O27: the frame, by evaluation; with the duplicate in front, by O28. -/
theorem readerIdTwoBreaksTheRoundTrip : Obligations.ReaderIdTwoBreaksTheRoundTrip := by
  unfold Obligations.ReaderIdTwoBreaksTheRoundTrip
  exact ⟨by rfl, by rfl, duplicatedStxIsTolerated [0x6F] 0x02 (by decide)⟩

end Sys2Proof.Machine

/-! ## One RX or TX pick -/

namespace Sys2Proof.Machine

/-- Settles O40: the two lemmas of COMPLETE, with `frameError` evaluated. -/
theorem completeDropsOrDispatches : Obligations.CompleteDropsOrDispatches := by
  unfold Obligations.CompleteDropsOrDispatches
  exact fun s => ⟨fun c h => complete_of_error h, fun P h => complete_of_ok h⟩

/-- A byte of BODY that is not the last counts down. -/
theorem rxByte_body_more {s : State} (b : Byte) (hr : s.rxSt = .body) (hrem : s.rxRem ≠ 1) :
    rxByte b s = .next { s with rxBuf := s.rxBuf ++ [b], rxRem := s.rxRem - 1 } := by
  have hmore : s.rxRem - 1 ≠ 0 := by bv_omega
  rw [rxByte_body b hr, if_neg hmore]

/-- Settles O39: the pick gives the byte to the framer (`step_rx_cons`), which has a lemma for each of its states. -/
theorem rxFollowsTheFramerTable : Obligations.RxFollowsTheFramerTable := by
  unfold Obligations.RxFollowsTheFramerTable
  intro s b held later hl hs hin u
  have hready {r : RxState} (hr : u.rxSt = r) (hne : r ≠ .txb) : step s = rxByte b u :=
    step_rx_cons hl hs hin (hr ▸ hne)
  refine ⟨fun hr (hb : b = STX) => ?_, fun hr (hb : b ≠ STX) => ?_, fun hr (hb : b = STX) => ?_,
    fun hr (hb : b ≠ STX) => ?_, fun hr => ?_, fun hr => ?_, fun hr hb => ?_, fun hr hb => ?_, fun hr hrem => ?_,
    fun hr hrem => ?_⟩ <;> rw [hready hr (by simp)]
  · rw [rxByte_hunt (s := u) b hr, if_pos hb]
  · rw [rxByte_hunt (s := u) b hr, if_neg hb]
  · rw [rxByte_stx1 (s := u) b hr, if_pos hb]
  · rw [rxByte_stx1 (s := u) b hr, if_neg hb]
  · exact rxByte_rid b hr
  · exact rxByte_ffb b hr
  · rw [rxByte_len (s := u) b hr, if_pos hb]
  · rw [rxByte_len (s := u) b hr, if_neg hb]
  · exact rxByte_body_more b hr hrem
  · exact rxByte_body_last b hr hrem

/-- Settles O41: the byte completes the span, the span is accepted, and its payload is dispatched. -/
theorem stepRunsTheDecodedInstruction : Obligations.StepRunsTheDecodedInstruction := by
  unfold Obligations.StepRunsTheDecodedInstruction
  intro s b held later P i hl hs hin hr hrem hacc hdec
  calc step s
      = rxByte b { s with sched := later, rxIn := held } := step_rx_cons hl hs hin (by simp [hr])
    _ = complete { s with sched := later, rxIn := held, rxBuf := s.rxBuf ++ [b], rxRem := 0 } :=
        rxByte_body_last b hr hrem
    _ = dispatch P { s with sched := later, rxIn := held, rxBuf := [], rxRem := 0 } := complete_of_ok hacc
    _ = _ := by rw [dispatch_of_decode hdec, logReceived_eq]

/-- Settles O44: it is `step_tx_cons`. -/
theorem txSendsTheFirstByte : Obligations.TxSendsTheFirstByte := by
  unfold Obligations.TxSendsTheFirstByte
  exact fun s b q later hl hs hq => step_tx_cons hl hs hq

theorem rxReady_iff {s : State} : rxReady s = true ↔ s.rxSt ≠ .txb := by
  simp [rxReady]

theorem txValid_iff {s : State} : txValid s = true ↔ s.txQ ≠ [] := by
  simp [txValid]

/-- Settles O46: the picks are carried out by `rxPick` and `txByte`, which do nothing where they are not enabled. -/
theorem disabledPicksAndIdleKeepTheBlock : Obligations.DisabledPicksAndIdleKeepTheBlock := by
  unfold Obligations.DisabledPicksAndIdleKeepTheBlock
  intro s later hl
  have hrx (hs : s.sched = .rx :: later) : step s = rxPick { s with sched := later } :=
    (step_of_sched_cons hs).trans (runChoice_rx (s := { s with sched := later }) hl)
  have htx (hs : s.sched = .tx :: later) : step s = .next (txByte { s with sched := later }) :=
    (step_of_sched_cons hs).trans (runChoice_tx (s := { s with sched := later }) hl)
  refine ⟨fun hs => step_of_sched_nil hs hl, fun hs hr => ?_, fun hs hin => ?_, fun hs hq => ?_, rxReady_iff,
    txValid_iff⟩
  · exact (hrx hs).trans (rxPick_txb hr)
  · exact (hrx hs).trans (rxPick_nil hin)
  · exact (htx hs).trans (congrArg _ (txByte_nil hq))

end Sys2Proof.Machine

/-! ## Which frame errors the block raises

MISSING_START and LENGTH_MISMATCH are errors of a byte string no framer has cut; PAYLOAD_TOO_LONG is an error of a
response that no good block sends. What is left of `60_exceptions.md` R221 is `SpanError`. -/

namespace Sys2Proof.Machine

/-! ### A response that is too long (`40_frame_codec.md` R103) -/

theorem le_dec_length (v w : Nat) : w ≤ (dec v w).length := by
  simp [dec]

/-- Whatever the clock said, a stamp has its 14 places at least (`41_dispatch.md` R154). -/
theorem le_stamp_length (t : DateTime) : 14 ≤ (stamp t).length := by
  have hfmt (v : Nat) : 2 ≤ (fmt2 v).length := le_dec_length v 2
  have hhour := hfmt t.hour
  have hminute := hfmt t.minute
  have hsecond := hfmt t.second
  have hday := hfmt t.day
  have hmonth := hfmt t.month
  have hyear := hfmt (t.year % 100)
  simp only [stamp, List.length_append, List.length_singleton]
  omega

theorem le_entryPayload_length (a : Attendance) : 27 + a.cardId.length ≤ (entryPayload a).length := by
  have hstamp := le_stamp_length a.ts
  simp only [entryPayload, List.length_append, List.length_cons, List.length_nil]
  omega

theorem exec_readCard_of_pending {prm : Bytes} {s : State} {a : Attendance} (h : pendingRecord s = some a) :
    exec (.readCard prm) s = .next (respond (entryPayload a) s) := by
  simp only [exec, execReadCard, h]

/-- Settles O3: an entry has 27 bytes besides the card id, so Encode refuses it. -/
theorem overlongPayloadGivesNoResponse : Obligations.OverlongPayloadGivesNoResponse := by
  unfold Obligations.OverlongPayloadGivesNoResponse
  refine ⟨fun P rid h => frameEncode_of_gt rid h, fun prm s a hpending hlong => ?_⟩
  have hentry := le_entryPayload_length a
  rw [exec_readCard_of_pending hpending, respond_of_gt s (by omega)]
  rfl

/-! ### The events a step gives out -/

/-- The frame errors a span that the framer cut can be dropped with. -/
def SpanError (c : FrameError) : Prop := c = .missingEnd ∨ c = .truncated ∨ c = .checksumMismatch

/-- `t` has given out what `s` had and some more events, whose frame errors are span errors. -/
def RaisesSpanErrors (s t : State) : Prop :=
  ∃ new, t.evt = s.evt ++ new ∧ ∀ c, Event.frameError c ∈ new → SpanError c

theorem RaisesSpanErrors.of_evt_eq {s t : State} (h : t.evt = s.evt) : RaisesSpanErrors s t :=
  ⟨[], by simpa using h, by simp⟩

theorem RaisesSpanErrors.of_one {s t : State} {e : Event} (h : t.evt = s.evt ++ [e])
    (he : ∀ c, e = .frameError c → SpanError c) : RaisesSpanErrors s t :=
  ⟨[e], h, fun c hc => he c (List.mem_singleton.mp hc).symm⟩

theorem RaisesSpanErrors.trans {s u t : State} (h : RaisesSpanErrors s u) (k : RaisesSpanErrors u t) :
    RaisesSpanErrors s t := by
  obtain ⟨first, hu, hfirst⟩ := h
  obtain ⟨second, ht, hsecond⟩ := k
  exact ⟨first ++ second, by rw [ht, hu, List.append_assoc],
    fun c hc => (List.mem_append.mp hc).elim (hfirst c) (hsecond c)⟩

theorem logReceived_raises (id : Byte) (prm : Bytes) (s : State) : RaisesSpanErrors s (logReceived id prm s) :=
  ⟨if s.rlogEn then [.received id prm] else [], by simp, by split <;> simp⟩

/-! ### A command raises none -/

theorem respond_noresp (P : Bytes) (s : State) : respond P (noresp s) = respond P s := by
  rcases respond_cases P s with ⟨hP, h⟩ | ⟨hP, h⟩ <;> rw [h]
  · rw [respond_of_le _ hP]; rfl
  · rw [respond_of_gt _ hP]; rfl

/-- No command reads what the framer expects, and its end writes it: a command does in HUNT what it does anywhere. -/
theorem exec_noresp (i : Instr) (s : State) : exec i (noresp s) = exec i s := by
  have hresp (P : Bytes) (u : State) :
      (.next (respond P (noresp u)) : Host.Outcome State Fault Refusal) = .next (respond P u) :=
    congrArg _ (respond_noresp P u)
  cases i with
  | readCard prm =>
    cases hp : pendingRecord s with
    | some a => rw [exec_readCard_of_pending hp, exec_readCard_of_pending (s := noresp s) hp, respond_noresp]
    | none =>
      have hp' : pendingRecord (noresp s) = none := hp
      simp only [exec, execReadCard, hp, hp']
      by_cases ho : s.workType = .offline
      · rw [if_pos ho, if_pos (show (noresp s).workType = .offline from ho), respond_noresp]
      · rw [if_neg ho, if_neg (show (noresp s).workType ≠ .offline from ho)]
        by_cases hr : s.rndEn = true
        · rw [if_pos hr, if_pos (show (noresp s).rndEn = true from hr)]
          exact hresp _ (rndDrawn s)
        · rw [if_neg hr, if_neg (show ¬ (noresp s).rndEn = true from hr), respond_noresp]
  | accessEvent prm =>
    simp only [exec, execAccessEvent]
    split_ifs
    · exact hresp _ (emit (accessGrantedEvent prm) s)
    · exact hresp _ (emit .accessDenied s)
    · exact hresp _ s
  | setWorkType prm =>
    simp only [exec, execSetWorkType]
    cases workTypeParam prm with
    | some w => exact hresp _ { s with workType := w }
    | none => exact hresp _ s
  | setProtocolMode prm =>
    simp only [exec, execSetProtocolMode]
    cases protocolModeParam prm with
    | some m => exact hresp _ { s with protocolMode := m }
    | none => exact hresp _ s
  | addPerson prm =>
    have hcount : rosterCount (noresp s) = rosterCount s := rfl
    simp only [exec, execAddPerson, hcount]
    cases personParam prm with
    | some p =>
      dsimp only
      split_ifs
      · exact hresp _ s
      · exact hresp _ (rosterAppend p s)
    | none => exact hresp _ s
  | clearLog prm =>
    simp only [exec, execClearLog]
    split_ifs
    · exact hresp _ (resetLog s)
    · exact hresp _ s
  | ackLog prm =>
    have hlen : logLen (noresp s) = logLen s := rfl
    simp only [exec, execAckLog, hlen, noresp_readCursor]
    split_ifs <;> rfl
  | getTime _ => exact hresp _ (rtcSampled s)
  | clearPersons _ => exact hresp _ (rosterClear s)
  | delPerson prm => exact hresp _ (rosterRemoveAll prm s)
  | ping _ | checkTime _ | personCount _ | logStatus _ | mifare52 _ | mifare54 _ | mifare55 _ | mifare56 _
  | mifare58 _ | mifare59 _ | mifare62 _ | mifare63 _ | mifare70 _ | mifare71 _ => exact hresp _ s

theorem accessGrantedEvent_ne_frameError (prm : Bytes) (c : FrameError) : accessGrantedEvent prm ≠ .frameError c := by
  unfold accessGrantedEvent
  split <;> simp

/-- ACCESS_EVENT gives out a granted or a denied event (`42_commands.md` R172). -/
theorem accessEvent_raises {prm : Bytes} {s t : State} (h : exec (.accessEvent prm) s = .next t) :
    RaisesSpanErrors s t := by
  simp only [exec, execAccessEvent, respond_OK, respond_PERR] at h
  obtain rfl := next_unique rfl h
  split_ifs
  · exact .of_one rfl fun c hc => absurd hc (accessGrantedEvent_ne_frameError prm c)
  · exact .of_one rfl (by simp)
  · exact .of_evt_eq rfl

theorem ackLog_evt {prm : Bytes} {s t : State} (h : exec (.ackLog prm) s = .next t) : t.evt = s.evt := by
  obtain rfl := next_unique rfl h
  rw [noresp_evt]
  split <;> rfl

/-- No other write than that of ACCESS_EVENT is an event. -/
theorem Writes.evt_eq {i : Instr} {s u : State} (hw : Writes i s u) (hi : ∀ prm, i ≠ .accessEvent prm) :
    u.evt = s.evt := by
  cases hw with
  | event prm => exact absurd rfl (hi prm)
  | _ => rfl

/-- The end of a command gives out an event only where no response is loaded. -/
theorem Ends.evt_eq_of_txb {u t : State} (he : Ends u t) (ht : t.rxSt = .txb) : t.evt = u.evt := by
  cases he with
  | silent => rfl
  | response P =>
    rcases respond_cases P u with ⟨-, h⟩ | ⟨-, h⟩ <;> rw [h] at ht ⊢
    · rfl
    · cases ht

/-- A command that the block runs answers with a payload that fits (`answers_of_ne_ackLog`), so PAYLOAD_TOO_LONG is not
raised (`60_exceptions.md` R238). -/
theorem exec_raises {i : Instr} {s t : State} (hs : SpanTaken s) (ht : validDateTime (rtcNow s) = true)
    (h : exec i s = .next t) : RaisesSpanErrors s t := by
  by_cases hacc : ∃ prm, i = .accessEvent prm
  · obtain ⟨prm, rfl⟩ := hacc
    exact accessEvent_raises h
  by_cases hack : ∃ prm, i = .ackLog prm
  · obtain ⟨prm, rfl⟩ := hack
    exact .of_evt_eq (ackLog_evt h)
  obtain ⟨P, v, hP, -, hexec⟩ := answers_of_ne_ackLog hs.noresp_good ht (not_exists.mp hack)
  have hanswered : t = answered P v := by
    rw [← respond_of_le v hP.le]
    exact next_unique h ((exec_noresp i s).symm.trans hexec)
  obtain ⟨u, hw, he⟩ := exec_eq_next h
  exact .of_evt_eq ((he.evt_eq_of_txb (by rw [hanswered]; rfl)).trans (hw.evt_eq (not_exists.mp hacc)))

theorem dispatch_raises {P : Bytes} {s t : State} (hs : SpanTaken s) (ht : validDateTime (rtcNow s) = true)
    (h : dispatch P s = .next t) : RaisesSpanErrors s t := by
  rcases dispatch_cases P s with ⟨-, hd⟩ | ⟨id, prm, -, -, hd⟩ | ⟨i, -, hd⟩
  · obtain rfl := next_unique h hd
    exact .of_evt_eq rfl
  · obtain rfl := next_unique h hd
    exact (logReceived_raises id prm s).trans (.of_evt_eq rfl)
  · have hclock : rtcNow (logReceived i.commandId i.params s) = rtcNow s := by simp [rtcNow]
    exact (logReceived_raises _ _ s).trans (exec_raises (hs.logReceived _ _) (hclock ▸ ht) (hd.symm.trans h))

/-! ### The span the framer cuts (`40_frame_codec.md` R111) -/

/-- An STX, and after the Length byte as many bytes as it says (`40_frame_codec.md` R115, R116). -/
structure WholeSpan (B : Bytes) : Prop where
  starts : B[0]? = some STX
  length_eq : B.length = ridIndex B + 3 + (B.getD (ridIndex B + 2) 0).toNat

section
variable {s : State} {b : Byte}

/-- A Length byte of 0 ends the span. -/
theorem SpanFits.whole_at_len (h : SpanFits s) (hr : s.rxSt = .len) (hb : b = 0) : WholeSpan (s.rxBuf ++ [b]) := by
  simp only [SpanFits, hr] at h
  obtain ⟨hstx, hlen⟩ := h
  have hrid : ridIndex (s.rxBuf ++ [b]) = ridIndex s.rxBuf :=
    ridIndex_append (by have := one_le_ridIndex s.rxBuf; omega) b
  have hget : (s.rxBuf ++ [b]).getD (ridIndex s.rxBuf + 2) 0 = b := by rw [← hlen]; simp
  refine ⟨getElem?_zero_append hstx b, ?_⟩
  rw [hrid, hget, hb]
  simp [hlen]

/-- The last byte that Length counts ends the span. -/
theorem SpanFits.whole_at_body (h : SpanFits s) (hr : s.rxSt = .body) (hn : s.rxRem - 1 = 0) :
    WholeSpan (s.rxBuf ++ [b]) := by
  simp only [SpanFits, hr] at h
  obtain ⟨hstx, hlong, hrem, hlen⟩ := h
  have hlast : s.rxRem.toNat = 1 := by bv_omega
  refine ⟨getElem?_zero_append hstx b, ?_⟩
  rw [ridIndex_append (by omega), List.getD_append _ _ _ _ (by omega), List.length_append, List.length_singleton]
  omega

/-- One byte into a good framer moves it, or completes a whole span. -/
theorem SpanFits.rxByte_cases (h : SpanFits s) (b : Byte) :
    (∃ buf n r, rxByte b s = .next { s with rxBuf := buf, rxRem := n, rxSt := r }) ∨
    (WholeSpan (s.rxBuf ++ [b]) ∧ ∃ n, rxByte b s = complete { s with rxBuf := s.rxBuf ++ [b], rxRem := n }) := by
  by_cases hlen : s.rxSt = .len ∧ b = 0
  · obtain ⟨hr, hb⟩ := hlen
    exact .inr ⟨h.whole_at_len hr hb, s.rxRem, (rxByte_len b hr).trans (if_pos hb)⟩
  by_cases hbody : s.rxSt = .body ∧ s.rxRem - 1 = 0
  · obtain ⟨hr, hn⟩ := hbody
    exact .inr ⟨h.whole_at_body hr hn, s.rxRem - 1, (rxByte_body b hr).trans (if_pos hn)⟩
  refine .inl ?_
  cases hr : s.rxSt with
  | hunt =>
    rw [rxByte_hunt b hr]
    split
    · exact ⟨_, s.rxRem, _, rfl⟩
    · exact ⟨s.rxBuf, s.rxRem, s.rxSt, rfl⟩
  | stx1 => exact ⟨_, s.rxRem, _, rxByte_stx1 b hr⟩
  | rid => exact ⟨_, s.rxRem, _, rxByte_rid b hr⟩
  | ffb => exact ⟨_, s.rxRem, _, rxByte_ffb b hr⟩
  | len => exact ⟨_, _, _, (rxByte_len b hr).trans (if_neg fun hb => hlen ⟨hr, hb⟩)⟩
  | body => exact ⟨_, _, s.rxSt, (rxByte_body b hr).trans (if_neg fun hn => hbody ⟨hr, hn⟩)⟩
  | txb => exact ⟨s.rxBuf, s.rxRem, s.rxSt, rxByte_txb b hr⟩

end

theorem frameAccept_eq_error {B : Bytes} {c : FrameError} (h : frameAccept B = .error c) :
    frameDecode B = .error c ∨ c = .checksumMismatch := by
  unfold frameAccept at h
  cases hd : frameDecode B with
  | error c' =>
    simp only [hd] at h
    exact .inl (congrArg _ (Except.error.inj h))
  | ok d =>
    simp only [hd] at h
    split_ifs at h
    exact .inr (Except.error.inj h).symm

/-- A whole span has an STX, and no byte after those that Length counts. -/
theorem WholeSpan.spanError {B : Bytes} (hB : WholeSpan B) {c : FrameError} (h : frameAccept B = .error c) :
    SpanError c := by
  rcases frameAccept_eq_error h with hd | rfl
  · obtain ⟨T, rfl⟩ : ∃ T, B = STX :: T := List.head?_eq_some_iff.mp (List.head?_eq_getElem?.trans hB.starts)
    rcases frameDecode_eq_error hd with ⟨-, hno⟩ | ⟨rfl, -⟩ | rfl | ⟨-, s, k, hs, hk, hlt⟩
    · simp at hno
    · exact .inl rfl
    · exact .inr (.inl rfl)
    · have hfirst : s = 0 := by simpa [firstIndex] using hs.symm
      subst hfirst
      have hrid : readerIndex (STX :: T) 0 = ridIndex (STX :: T) := rfl
      have hlast : k < T.length := lastIndex_lt hk
      have hlen := hB.length_eq
      rw [hrid] at hlt
      simp only [List.length_cons] at hlen
      omega
  · exact .inr (.inr rfl)

/-! ### Every pick raises span errors only -/

theorem complete_raises {s t : State} (hd : DeviceInv s) (hq : s.txQ = []) (hB : WholeSpan s.rxBuf)
    (ht : validDateTime (rtcNow s) = true) (h : complete s = .next t) : RaisesSpanErrors s t := by
  cases ha : frameAccept s.rxBuf with
  | error c =>
    obtain rfl := next_unique h (complete_of_error ha)
    refine .of_one rfl fun c' hc => ?_
    obtain rfl := Event.frameError.inj hc
    exact hB.spanError ha
  | ok P =>
    have htaken : SpanTaken { s with rxBuf := [], rxRem := 0 } :=
      ⟨hd.of_sameDevice (sameDevice_framer s [] 0 s.rxSt), rfl, rfl, hq⟩
    exact dispatch_raises (s := { s with rxBuf := [], rxRem := 0 }) htaken ht ((complete_of_ok ha).symm.trans h)

theorem rxByte_raises {b : Byte} {s t : State} (hs : BlockInv s) (hr : s.rxSt ≠ .txb)
    (ht : validDateTime (rtcNow s) = true) (h : rxByte b s = .next t) : RaisesSpanErrors s t := by
  rcases hs.span_fits.rxByte_cases b with ⟨buf, n, r, hb⟩ | ⟨hB, n, hb⟩
  · obtain rfl := next_unique h hb
    exact .of_evt_eq rfl
  · exact complete_raises (s := { s with rxBuf := s.rxBuf ++ [b], rxRem := n })
      (hs.device.of_sameDevice (sameDevice_framer s _ n s.rxSt)) (hs.txQ_eq_nil hr) hB ht (hb.symm.trans h)

theorem rxPick_raises {s t : State} (hs : BlockInv s) (ht : validDateTime (rtcNow s) = true)
    (h : rxPick s = .next t) : RaisesSpanErrors s t := by
  rcases rxPick_cases s with hn | ⟨b, held, -, hr, hb⟩
  · obtain rfl := next_unique h hn
    exact .of_evt_eq rfl
  · exact rxByte_raises (s := { s with rxIn := held }) (hs.with_inputs s.sched held) hr ht (hb.symm.trans h)

/-- A RESET gives out coercion events only (`60_exceptions.md` R241). -/
theorem resetBlock_raises (cfg : ConfigInputs) (s : State) : RaisesSpanErrors s (resetBlock cfg s) := by
  refine ⟨coercionEvents cfg, rfl, fun c hc => ?_⟩
  unfold coercionEvents at hc
  split_ifs at hc <;> simp at hc

theorem txByte_evt (s : State) : (txByte s).evt = s.evt := by
  cases hq : s.txQ with
  | nil => rw [txByte_nil hq]
  | cons b q => rw [txByte_cons hq]

theorem injectRecord_evt (ts : DateTime) (cid : Bytes) (s : State) : (injectRecord ts cid s).evt = s.evt := by
  rcases injectRecord_cases ts cid s with ⟨-, h⟩ | ⟨-, -, h⟩ | ⟨-, -, h⟩ <;> rw [h] <;> rfl

theorem runChoice_raises {c : Choice} {s t : State} (hs : BlockInv s) (ht : validDateTime (rtcNow s) = true)
    (h : runChoice c s = .next t) : RaisesSpanErrors s t := by
  rcases runChoice_eq_next h with ⟨cfg, -, rfl⟩ | ⟨-, hrx⟩ | ⟨-, rfl⟩ | ⟨-, rfl⟩ | ⟨ts, cid, -, rfl⟩
  · exact resetBlock_raises cfg s
  · exact rxPick_raises hs ht hrx
  · exact .of_evt_eq (txByte_evt s)
  · exact .of_evt_eq (linkReset_evt s)
  · exact .of_evt_eq (injectRecord_evt ts cid s)

/-- Settles O59: of all picks only a completed span raises frame errors, and it is whole (`WholeSpan.spanError`). -/
theorem blockRaisesOnlyThreeFrameErrors : Obligations.BlockRaisesOnlyThreeFrameErrors := by
  unfold Obligations.BlockRaisesOnlyThreeFrameErrors
  intro s t hs ht h
  rcases step_eq_next h with rfl | ⟨c, later, -, hc⟩
  · exact RaisesSpanErrors.of_evt_eq rfl
  · exact runChoice_raises (s := { s with sched := later }) (hs.with_inputs later s.rxIn) ht hc

end Sys2Proof.Machine

/-! ## What a command answers and gives out

A command that writes the device state, or gives out an event of its own, answers OK or nothing (`41_dispatch.md` R145);
every other command has written at most a draw or a sample. The only EV_RECEIVED is the one Dispatch logs (R142). -/

namespace Sys2Proof.Machine

/-- Settles O16: every command runs through to an end (`exec_completes`). -/
theorem everyCommandCompletes : Obligations.EveryCommandCompletes := by
  unfold Obligations.EveryCommandCompletes
  intro i s
  obtain ⟨-, t, -, -, h⟩ := exec_completes i s
  exact ⟨t, h⟩

/-! ### An error answer -/

/-- How a command that started in `s` ended in `t`: with OK, silently, or with nothing written and no event given out
before the end. -/
inductive OkOrQuiet (s : State) : State → Prop
  | ok (u : State) : OkOrQuiet s (respond OK u)
  | silent (u : State) : OkOrQuiet s (noresp u)
  | quiet {u t : State} (ends : Ends u t) (device : SameDevice s u) (evt : u.evt = s.evt) : OkOrQuiet s t

section
variable {prm : Bytes} {s t : State}

/-- A command that has done nothing is quiet, whatever it answers. -/
theorem OkOrQuiet.respond_self (P : Bytes) (s : State) : OkOrQuiet s (respond P s) :=
  .quiet (.response P) ⟨rfl, rfl, rfl, rfl, rfl⟩ rfl

theorem accessEvent_okOrQuiet (h : exec (.accessEvent prm) s = .next t) : OkOrQuiet s t := by
  simp only [exec, execAccessEvent] at h
  obtain rfl := next_unique rfl h
  split_ifs
  · exact .ok _
  · exact .ok _
  · exact .respond_self PERR s

theorem setWorkType_okOrQuiet (h : exec (.setWorkType prm) s = .next t) : OkOrQuiet s t := by
  simp only [exec, execSetWorkType] at h
  obtain rfl := next_unique rfl h
  cases workTypeParam prm with
  | some w => exact .ok _
  | none => exact .respond_self ERR s

theorem setProtocolMode_okOrQuiet (h : exec (.setProtocolMode prm) s = .next t) : OkOrQuiet s t := by
  simp only [exec, execSetProtocolMode] at h
  obtain rfl := next_unique rfl h
  cases protocolModeParam prm with
  | some m => exact .ok _
  | none => exact .respond_self ERR s

theorem addPerson_okOrQuiet (h : exec (.addPerson prm) s = .next t) : OkOrQuiet s t := by
  simp only [exec, execAddPerson] at h
  obtain rfl := next_unique rfl h
  cases personParam prm with
  | none => exact .respond_self ERR s
  | some p =>
    dsimp only
    split_ifs
    · exact .respond_self ERR s
    · exact .ok _

theorem clearLog_okOrQuiet (h : exec (.clearLog prm) s = .next t) : OkOrQuiet s t := by
  simp only [exec, execClearLog] at h
  obtain rfl := next_unique rfl h
  split_ifs
  · exact .ok _
  · exact .respond_self ERR s

end

/-- By what the command wrote: nothing of the device, or something only the arms that answer OK or nothing write. -/
theorem exec_okOrQuiet {i : Instr} {s t : State} (h : exec i s = .next t) : OkOrQuiet s t := by
  obtain ⟨u, hw, he⟩ := exec_eq_next h
  cases hw with
  | nothing | draw | sample => exact .quiet he ⟨rfl, rfl, rfl, rfl, rfl⟩ rfl
  | event => exact accessEvent_okOrQuiet h
  | workType => exact setWorkType_okOrQuiet h
  | protocolMode => exact setProtocolMode_okOrQuiet h
  | person => exact addPerson_okOrQuiet h
  | clearLog => exact clearLog_okOrQuiet h
  | clearPersons | delPerson =>
    obtain rfl := next_unique h rfl
    exact .ok _
  | advance =>
    obtain rfl := next_unique h rfl
    exact .silent _

/-- A frame determines its payload. -/
theorem payload_eq_of_frameBytes_eq {P Q : Bytes} {rid rid' : Byte} (h : frameBytes P rid = frameBytes Q rid') :
    P = Q := by
  have hlen : P.length = Q.length := by simpa using congrArg List.length h
  simp only [frameBytes_eq, List.append_assoc, List.cons.injEq] at h
  obtain ⟨-, -, -, -, htail⟩ := h
  exact (List.append_inj htail hlen).1

/-- Settles O19: the frame is not that of OK, and a quiet command that loads one gives out no event. -/
theorem errorAnswerWritesNothing : Obligations.ErrorAnswerWritesNothing := by
  unfold Obligations.ErrorAnswerWritesNothing
  intro i s t h htxb hq
  cases exec_okOrQuiet h with
  | ok u =>
    rw [respond_OK, answered_txQ] at hq
    rcases hq with hq | hq <;> exact absurd (payload_eq_of_frameBytes_eq hq) (by decide)
  | silent u => cases htxb
  | quiet ends device evt => exact ⟨device.trans ends.sameDevice, (ends.evt_eq_of_txb htxb).trans evt⟩

/-! ### The events of a command -/

/-- `t` has given out what `s` had and some more events, none of them EV_RECEIVED. -/
def GivesOutNoReceived (s t : State) : Prop :=
  ∃ es, t.evt = s.evt ++ es ∧ ∀ id prm, Event.received id prm ∉ es

theorem GivesOutNoReceived.of_evt_eq {s t : State} (h : t.evt = s.evt) : GivesOutNoReceived s t :=
  ⟨[], by simpa using h, by simp⟩

theorem GivesOutNoReceived.of_one {s t : State} {e : Event} (h : t.evt = s.evt ++ [e])
    (he : ∀ id prm, e ≠ .received id prm) : GivesOutNoReceived s t :=
  ⟨[e], h, fun id prm hmem => he id prm (List.mem_singleton.mp hmem).symm⟩

/-- The end of a command gives out nothing, or PAYLOAD_TOO_LONG (`60_exceptions.md` R238). -/
theorem Ends.givesOutNoReceived {u t : State} (he : Ends u t) : GivesOutNoReceived u t := by
  cases he with
  | silent => exact .of_evt_eq rfl
  | response P =>
    rcases respond_cases P u with ⟨-, h⟩ | ⟨-, h⟩ <;> rw [h]
    · exact .of_evt_eq rfl
    · exact .of_one rfl (by simp)

theorem accessGrantedEvent_ne_received (prm : Bytes) (id : Byte) (prm' : Bytes) :
    accessGrantedEvent prm ≠ .received id prm' := by
  unfold accessGrantedEvent
  split <;> simp

theorem accessEvent_givesOutNoReceived {prm : Bytes} {s t : State} (h : exec (.accessEvent prm) s = .next t) :
    GivesOutNoReceived s t := by
  simp only [exec, execAccessEvent, respond_OK, respond_PERR] at h
  obtain rfl := next_unique rfl h
  split_ifs
  · exact .of_one rfl (accessGrantedEvent_ne_received prm)
  · exact .of_one rfl (by simp)
  · exact .of_evt_eq rfl

/-- Only ACCESS_EVENT gives out an event before its end (`Writes.evt_eq`). -/
theorem exec_givesOutNoReceived {i : Instr} {s t : State} (h : exec i s = .next t) : GivesOutNoReceived s t := by
  by_cases hacc : ∃ prm, i = .accessEvent prm
  · obtain ⟨prm, rfl⟩ := hacc
    exact accessEvent_givesOutNoReceived h
  · obtain ⟨u, hw, he⟩ := exec_eq_next h
    rw [GivesOutNoReceived, ← hw.evt_eq (not_exists.mp hacc)]
    exact he.givesOutNoReceived

/-- Settles O21: Dispatch logs, then runs the command, and only the log is EV_RECEIVED. -/
theorem receivedEventComesFirst : Obligations.ReceivedEventComesFirst := by
  unfold Obligations.ReceivedEventComesFirst
  intro i s
  have hdispatch := dispatch_of_decode (Laws.decode_encode i) s
  have hoff (hl : s.rlogEn = false) : dispatch (encode i) s = exec i s := by
    rw [hdispatch]
    simp [logReceived, hl]
  refine ⟨fun t hl h => ?_, hoff, fun t hl h => exec_givesOutNoReceived ((hoff hl).symm.trans h)⟩
  obtain ⟨es, hevt, hes⟩ := exec_givesOutNoReceived (hdispatch.symm.trans h)
  exact ⟨es, by simp [hevt, hl], hes⟩

end Sys2Proof.Machine

/-! ## The fields of a text and the calendar -/

namespace Sys2Proof.Machine

/-! ### Digits out and in (`41_dispatch.md` R147, R153) -/

/-- The digits that do not fit the width stand in front of those that do, so all of them read back. -/
theorem numFrom_dec (v w : Nat) : numFrom 0 (dec v w) = some v := by
  rw [dec, numFrom_append, numFrom_allDigits _ _ (Nat.le_refl _), Option.bind_some, numFrom_lowDigits,
    Nat.mul_comm, Nat.div_add_mod]

/-- Settles O36: `numFrom_dec` reads the digits back; the lengths are those of the low digits. -/
theorem decIsPaddedDecimal : Obligations.DecIsPaddedDecimal := by
  unfold Obligations.DecIsPaddedDecimal
  intro v w
  have hread : num? (dec v w) 0 (dec v w).length = some v := by
    rw [num?, if_neg (by omega), slice_whole (Nat.zero_add _).symm, numFrom_dec]
  exact ⟨hread, le_dec_length v w, dec_length_of_lt⟩

/-! ### Fields that stand one after the other (`41_dispatch.md` R149 to R151) -/

/-- A slice that has its whole width lies inside the string. -/
theorem le_length_of_slice_length {P : Bytes} {a w : Nat} (hw : 0 < w) (h : (slice P a (a + w)).length = w) :
    a + w ≤ P.length := by
  rw [slice_length] at h
  omega

/-- A number that fits its field is read there exactly when its digits stand there. -/
theorem num_iff_slice {P : Bytes} {a w v : Nat} (hw : 0 < w) (hv : v < 10 ^ w) :
    num? P a w = some v ↔ slice P a (a + w) = dec v w := by
  rw [num_eq_some, dec_of_lt hv]
  constructor
  · rintro ⟨-, -, hs⟩
    exact hs
  · intro hs
    exact ⟨le_length_of_slice_length hw (by rw [hs, lowDigits_length]), hv, hs⟩

theorem num_lt {P : Bytes} {a w v : Nat} (h : num? P a w = some v) : v < 10 ^ w := by
  obtain ⟨-, hlt, -⟩ := num_eq_some.mp h
  exact hlt

/-- Three fields are read exactly when their digits stand there in one piece. -/
theorem three_nums_iff_slice {P : Bytes} {a w x y z : Nat} (hw : 0 < w) (hx : x < 100) (hy : y < 100)
    (hz : z < 10 ^ w) :
    (num? P a 2 = some x ∧ num? P (a + 2) 2 = some y ∧ num? P (a + 4) w = some z) ↔
      slice P a (a + (4 + w)) = fmt2 x ++ fmt2 y ++ dec z w := by
  have hsplit : slice P a (a + (4 + w)) =
      slice P a (a + 2) ++ slice P (a + 2) (a + 4) ++ slice P (a + 4) (a + 4 + w) := by
    rw [← slice_append_slice (by omega) (by omega), ← slice_append_slice (by omega) (by omega), Nat.add_assoc]
  have hlen : (fmt2 x ++ fmt2 y ++ dec z w).length = 4 + w := by
    simp only [List.length_append, fmt2_length hx, fmt2_length hy, dec_length_of_lt hz]
  rw [num_iff_slice (by omega) hx, num_iff_slice (by omega) hy, num_iff_slice hw hz]
  constructor
  · rintro ⟨hsx, hsy, hsz⟩
    rw [hsplit, hsx, hsy, hsz, fmt2, fmt2]
  · intro h
    have hin : a + (4 + w) ≤ P.length := le_length_of_slice_length (by omega) (by rw [h, hlen])
    rw [hsplit] at h
    obtain ⟨hxy, hsz⟩ := List.append_inj h
      (by simp only [List.length_append, slice_length, fmt2_length hx, fmt2_length hy]; omega)
    obtain ⟨hsx, hsy⟩ := List.append_inj hxy (by rw [slice_length, fmt2_length hx]; omega)
    exact ⟨hsx, hsy, hsz⟩

theorem parseHms_eq_some {P : Bytes} {a : Nat} {t : Hms} : parseHms P a = some t ↔
    (t.hour ≤ 23 ∧ t.minute ≤ 59 ∧ t.second ≤ 59) ∧
      num? P a 2 = some t.hour ∧ num? P (a + 2) 2 = some t.minute ∧ num? P (a + 4) 2 = some t.second := by
  unfold parseHms
  constructor
  · intro h
    split at h
    · next hh mi ss hhh hmi hss =>
      split_ifs at h
      obtain rfl := Option.some.inj h
      exact ⟨by dsimp only; omega, hhh, hmi, hss⟩
    · cases h
  · rintro ⟨hrange, hhh, hmi, hss⟩
    simp only [hhh, hmi, hss]
    exact if_neg (by omega)

/-- Settles O34: the ranges make each field fit two digits. -/
theorem timeFieldParsesExactly : Obligations.TimeFieldParsesExactly := by
  unfold Obligations.TimeFieldParsesExactly
  intro P a t
  rw [parseHms_eq_some, and_assoc, and_assoc]
  refine and_congr_right fun hh => and_congr_right fun hmi => and_congr_right fun hss => ?_
  exact three_nums_iff_slice (w := 2) (by omega) (by omega) (by omega) (by omega)

theorem parseDmy2_eq_some {P : Bytes} {a : Nat} {d : Date} : parseDmy2 P a = some d ↔
    (validDate d.day d.month d.year = true ∧ 2000 ≤ d.year ∧ d.year ≤ 2099) ∧
      num? P a 2 = some d.day ∧ num? P (a + 2) 2 = some d.month ∧ num? P (a + 4) 2 = some (d.year % 100) := by
  constructor
  · intro h
    refine ⟨parseDmy2_range h, ?_⟩
    unfold parseDmy2 at h
    split at h
    · next dd mo yy hdd hmo hyy =>
      have hlt := num_lt hyy
      split_ifs at h
      obtain rfl := Option.some.inj h
      refine ⟨hdd, hmo, hyy.trans (congrArg some ?_)⟩
      dsimp only
      omega
    · cases h
  · rintro ⟨⟨hv, hlo, hhi⟩, hdd, hmo, hyy⟩
    have hcentury : 2000 + d.year % 100 = d.year := by omega
    simp only [parseDmy2, hdd, hmo, hyy, hcentury]
    exact if_pos hv

theorem parseDmy4_eq_some {P : Bytes} {a : Nat} {d : Date} : parseDmy4 P a = some d ↔
    validDate d.day d.month d.year = true ∧
      num? P a 2 = some d.day ∧ num? P (a + 2) 2 = some d.month ∧ num? P (a + 4) 4 = some d.year := by
  unfold parseDmy4
  constructor
  · intro h
    split at h
    · next dd mo y hdd hmo hy =>
      split_ifs at h with hv
      obtain rfl := Option.some.inj h
      exact ⟨hv, hdd, hmo, hy⟩
    · cases h
  · rintro ⟨hv, hdd, hmo, hy⟩
    simp only [hdd, hmo, hy]
    exact if_pos hv

/-- The ranges of a valid date (`41_dispatch.md` R148). -/
theorem validDate_iff {d m y : Nat} : validDate d m y = true ↔
    1 ≤ y ∧ y ≤ 9999 ∧ 1 ≤ m ∧ m ≤ 12 ∧ 1 ≤ d ∧ d ≤ daysIn m y := decide_eq_true_iff

/-- Day, month and year of a valid date fit their two and four digits. -/
theorem validDate_fits {d m y : Nat} (h : validDate d m y = true) : d < 100 ∧ m < 100 ∧ y < 10 ^ 4 := by
  obtain ⟨-, hy, -, hm, -, hd⟩ := validDate_iff.mp h
  have hdays := daysIn_le m y
  omega

/-- Settles O35: a valid date's fields fit their digits. -/
theorem dateFieldsParseExactly : Obligations.DateFieldsParseExactly := by
  unfold Obligations.DateFieldsParseExactly
  intro P a d
  constructor
  · rw [parseDmy2_eq_some, and_assoc, and_assoc]
    refine and_congr_right fun hv => and_congr_right fun _ => and_congr_right fun _ => ?_
    obtain ⟨hd, hm, -⟩ := validDate_fits hv
    exact three_nums_iff_slice (w := 2) (by omega) hd hm (by omega)
  · rw [parseDmy4_eq_some]
    refine and_congr_right fun hv => ?_
    obtain ⟨hd, hm, hy⟩ := validDate_fits hv
    exact three_nums_iff_slice (w := 4) (by omega) hd hm hy

/-! ### The weekday of the next day (`41_dispatch.md` R148, R152)

The formula reduces a sum modulo 7. The sum grows by 1 with the day; at the end of a month and of a year it is the
calendar's month lengths that make it grow by 1 modulo 7. -/

/-- What the years up to `y` add to the sum: one day each, one more for a leap year. -/
def yearShift (y : Nat) : Nat := y + y / 4 - y / 100 + y / 400

/-- What the months before `m` add to the sum, with the leap day left to `yearShift`. -/
def monthShift (m : Nat) : Nat := [0, 3, 2, 5, 0, 3, 5, 1, 4, 6, 2, 4].getD (m - 1) 0

/-- The sum whose remainder is the weekday; in January and February the leap day is still to come. -/
def weekdaySum (y m d : Nat) : Nat := yearShift (if m < 3 then y - 1 else y) + monthShift m + d

/-- Monday 1 to Sunday 7. -/
def weekdayOf (n : Nat) : Nat := if n % 7 = 0 then 7 else n % 7

theorem isoWeekday_eq (y m d : Nat) : isoWeekday y m d = weekdayOf (weekdaySum y m d) := rfl

theorem weekdayOf_next {n k : Nat} (h : k % 7 = (n + 1) % 7) : weekdayOf k = weekdayOf n % 7 + 1 := by
  unfold weekdayOf
  split_ifs <;> omega

theorem leap_iff (y : Nat) : leap y = true ↔ (4 ∣ y ∧ ¬ 100 ∣ y) ∨ 400 ∣ y := by
  simp only [leap, Bool.or_eq_true, Bool.and_eq_true, beq_iff_eq, bne_iff_ne, ne_eq, Nat.dvd_iff_mod_eq_zero]

/-- Each of the three quotients grows where its divisor divides the new year (`Nat.succ_div`). -/
theorem yearShift_succ (y : Nat) : yearShift (y + 1) = yearShift y + if leap (y + 1) then 2 else 1 := by
  have hle : y / 100 ≤ y / 4 := Nat.div_le_div_left (by omega) (by omega)
  have hcentury : 100 ∣ y + 1 → 4 ∣ y + 1 := Nat.dvd_trans (by decide)
  have hfour : 400 ∣ y + 1 → 100 ∣ y + 1 := Nat.dvd_trans (by decide)
  simp only [yearShift, Nat.succ_div, leap_iff]
  by_cases h4 : 4 ∣ y + 1
  · by_cases h100 : 100 ∣ y + 1
    · by_cases h400 : 400 ∣ y + 1
      · simp [h4, h100, h400]; omega
      · simp [h4, h100, h400]; omega
    · have h400 : ¬ 400 ∣ y + 1 := mt hfour h100
      simp [h4, h100, h400]; omega
  · have h100 : ¬ 100 ∣ y + 1 := mt hcentury h4
    have h400 : ¬ 400 ∣ y + 1 := mt hfour h100
    simp [h4, h100, h400]; omega

/-- The shift grows by the length of the month, but for the leap day, which `yearShift` counts. -/
theorem monthShift_succ {m : Nat} (hm : 1 ≤ m) (hm' : m < 12) (hfeb : m ≠ 2) (y : Nat) :
    monthShift (m + 1) % 7 = (monthShift m + daysIn m y) % 7 := by
  interval_cases m <;> simp_all [monthShift, daysIn]

/-- From the last of February to the first of March the sum takes the year in, and with it the leap day. -/
theorem weekdaySum_first_of_march {y : Nat} (hy : 1 ≤ y) :
    weekdaySum y 3 1 % 7 = (weekdaySum y 2 (daysIn 2 y) + 1) % 7 := by
  have hyear : yearShift y = yearShift (y - 1) + if leap y then 2 else 1 := by
    simpa only [Nat.sub_add_cancel hy] using yearShift_succ (y - 1)
  have hfeb : daysIn 2 y = if leap y then 29 else 28 := rfl
  have hmarch : weekdaySum y 3 1 = yearShift y + 2 + 1 := rfl
  have hlast : weekdaySum y 2 (daysIn 2 y) = yearShift (y - 1) + 3 + daysIn 2 y := rfl
  rw [hmarch, hlast, hyear, hfeb]
  split <;> omega

theorem weekdaySum_first_of_month {y m : Nat} (hy : 1 ≤ y) (hm : 1 ≤ m) (hm' : m < 12) :
    weekdaySum y (m + 1) 1 % 7 = (weekdaySum y m (daysIn m y) + 1) % 7 := by
  by_cases hfeb : m = 2
  · subst hfeb
    exact weekdaySum_first_of_march hy
  · have hmonth := monthShift_succ hm hm' hfeb y
    have hside : m + 1 < 3 ↔ m < 3 := by omega
    simp only [weekdaySum, hside]
    omega

theorem weekdaySum_first_of_year (y : Nat) : weekdaySum (y + 1) 1 1 % 7 = (weekdaySum y 12 31 + 1) % 7 := by
  have hfirst : weekdaySum (y + 1) 1 1 = yearShift y + 0 + 1 := rfl
  have hlast : weekdaySum y 12 31 = yearShift y + 4 + 31 := rfl
  omega

theorem weekdaySum_nextDay {d : Date} (h : validDate d.day d.month d.year = true) :
    weekdaySum (nextDay d).year (nextDay d).month (nextDay d).day % 7 =
      (weekdaySum d.year d.month d.day + 1) % 7 := by
  obtain ⟨hy, -, hm, hm', -, hd⟩ := validDate_iff.mp h
  unfold nextDay
  split_ifs with hday hmonth
  · rfl
  · have hlast : d.day = daysIn d.month d.year := by omega
    rw [hlast]
    exact weekdaySum_first_of_month hy hm hmonth
  · have hdec : d.month = 12 := by omega
    have hdays : daysIn 12 d.year = 31 := rfl
    rw [hdec, hdays] at hd hday
    have hlast : d.day = 31 := by omega
    rw [hdec, hlast]
    exact weekdaySum_first_of_year d.year

/-- Settles O37: the sum grows by 1 modulo 7 with every day. -/
theorem weekdayAdvancesDayByDay : Obligations.WeekdayAdvancesDayByDay := by
  unfold Obligations.WeekdayAdvancesDayByDay
  refine ⟨fun d h => ⟨isoWeekday_range _ _ _, ?_⟩, by decide⟩
  rw [isoWeekday_eq, isoWeekday_eq]
  exact weekdayOf_next (weekdaySum_nextDay h)

end Sys2Proof.Machine

/-! ## The commands one by one (`42_commands.md`)

For each of the 24 commands, the tests that choose its answer and the state it answers from. A response that fits is
loaded whole (`respond_of_le`), so what is left of each command is its choice. -/

namespace Sys2Proof.Machine

/-- A command that responds with a payload that fits answers that payload. -/
theorem exec_answered {i : Instr} {s u : State} {P : Bytes} (h : exec i s = .next (respond P u))
    (hfit : P.length ≤ 252) : exec i s = .next (answered P u) := by
  rw [h, respond_of_le u hfit]

/-- The CommandId selects the instruction, and an instruction that responds at once answers (`41_dispatch.md` R140). -/
theorem decode_and_exec_answered {i : Instr} {s : State} {P : Bytes} (h : exec i s = .next (respond P s))
    (hfit : P.length ≤ 252) : decode (encode i) = .ok i ∧ exec i s = .next (answered P s) :=
  ⟨Laws.decode_encode i, exec_answered h hfit⟩

/-! ### The polling commands (R170 to R172) -/

section
variable {prm : Bytes} {s : State}

/-- With no record pending, READ_CARD goes by the work type, then by random reads. -/
theorem exec_readCard_of_caughtUp (h : s.attLog.length ≤ s.readCursor.toNat) :
    exec (.readCard prm) s = .next (
      if s.workType = .offline then respond EMPTY_CARD s
      else if s.rndEn then respond (if rndNow s then FILLED_CARD else EMPTY_CARD) (rndDrawn s)
      else respond EMPTY_CARD s) := by
  simp only [exec, execReadCard, pendingRecord_eq_none.mpr h]

theorem exec_readCard_offline (h : s.attLog.length ≤ s.readCursor.toNat) (ho : s.workType = .offline) :
    exec (.readCard prm) s = .next (answered EMPTY_CARD s) := by
  rw [exec_readCard_of_caughtUp h, if_pos ho, respond_EMPTY_CARD]

/-- Either card a draw can pick fits. -/
theorem drawnCard_length_le (filled : Bool) : (if filled then FILLED_CARD else EMPTY_CARD).length ≤ 252 := by
  cases filled <;> decide

theorem exec_readCard_random (h : s.attLog.length ≤ s.readCursor.toNat) (ho : s.workType ≠ .offline)
    (hr : s.rndEn = true) : exec (.readCard prm) s =
      .next (answered (if rndNow s then FILLED_CARD else EMPTY_CARD) (rndDrawn s)) := by
  rw [exec_readCard_of_caughtUp h, if_neg ho, if_pos hr, respond_of_le _ (drawnCard_length_le _)]

theorem exec_readCard_notRandom (h : s.attLog.length ≤ s.readCursor.toNat) (ho : s.workType ≠ .offline)
    (hr : s.rndEn = false) : exec (.readCard prm) s = .next (answered EMPTY_CARD s) := by
  rw [exec_readCard_of_caughtUp h, if_neg ho, if_neg (by simp [hr]), respond_EMPTY_CARD]

theorem accessGrantedEvent_of_parsed {t : Hms} {d : Date} (ht : parseHms prm 1 = some t)
    (hd : parseDmy4 prm 7 = some d) : accessGrantedEvent prm =
      .accessGranted (some ⟨d.year, d.month, d.day, t.hour, t.minute, t.second⟩) (prm.drop 15) := by
  simp only [accessGrantedEvent, ht, hd]

theorem accessGrantedEvent_of_malformed (h : parseHms prm 1 = none ∨ parseDmy4 prm 7 = none) :
    accessGrantedEvent prm = .accessGranted none [] := by
  unfold accessGrantedEvent
  split
  · next ht hd => simp [ht, hd] at h
  · rfl

theorem exec_accessEvent_plus (h : prm.head? = some 0x2B) :
    exec (.accessEvent prm) s = .next (answered OK (emit (accessGrantedEvent prm) s)) := by
  simp only [exec, execAccessEvent, if_pos h, respond_OK]

theorem exec_accessEvent_minus (h : prm.head? = some 0x2D) :
    exec (.accessEvent prm) s = .next (answered OK (emit .accessDenied s)) := by
  have hplus : prm.head? ≠ some 0x2B := by rw [h]; decide
  simp only [exec, execAccessEvent, if_neg hplus, if_pos h, respond_OK]

theorem exec_accessEvent_other (hplus : prm.head? ≠ some 0x2B) (hminus : prm.head? ≠ some 0x2D) :
    exec (.accessEvent prm) s = .next (answered PERR s) := by
  simp only [exec, execAccessEvent, if_neg hplus, if_neg hminus, respond_PERR]

end

/-- Settles O2: one clause per branch of READ_CARD; a record that INJECT could store makes a payload that fits. -/
theorem readCardAnswersByCase : Obligations.ReadCardAnswersByCase := by
  unfold Obligations.ReadCardAnswersByCase
  intro prm s
  refine ⟨Laws.decode_encode (.readCard prm), fun a hpending hok => ?_, fun h ho => ?_, fun h ho hr => ?_,
    fun h ho hr => ?_⟩
  · exact exec_answered (exec_readCard_of_pending hpending) (sendable_entryPayload hok).le
  · exact exec_readCard_offline h ho
  · exact exec_readCard_random h ho hr
  · exact exec_readCard_notRandom h ho hr

/-- Settles O1: the OK frame fits. -/
theorem pingAnswersOk : Obligations.PingAnswersOk := by
  unfold Obligations.PingAnswersOk
  intro prm s
  exact decode_and_exec_answered (i := .ping prm) (P := OK) rfl (by decide)

/-- Settles O4: the first byte picks the branch, and after '+' the two parsers pick the event. -/
theorem accessEventAnswersBySign : Obligations.AccessEventAnswersBySign := by
  unfold Obligations.AccessEventAnswersBySign
  intro prm s
  refine ⟨Laws.decode_encode (.accessEvent prm), fun t d hplus ht hd => ?_, fun hplus hbad => ?_, fun hminus => ?_,
    fun hplus hminus => ?_⟩
  · rw [exec_accessEvent_plus hplus, accessGrantedEvent_of_parsed ht hd]
    rfl
  · rw [exec_accessEvent_plus hplus, accessGrantedEvent_of_malformed hbad]
    rfl
  · exact exec_accessEvent_minus hminus
  · exact exec_accessEvent_other hplus hminus

/-! ### The time commands (R173, R174) -/

/-- CHECK_TIME's test, condition by condition (`30_encoding.md` R80). -/
theorem timeAgrees_iff {prm : Bytes} : timeAgrees prm = true ↔ prm.length = 14 ∧ ∃ t d, parseHms prm 0 = some t ∧
    parseDmy2 prm 8 = some d ∧ prm[7]? = some (digitByte (isoWeekday d.year d.month d.day)) := by
  unfold timeAgrees
  split
  · next hlen => simp [hlen]
  · next hlen =>
    split
    · next t d ht hd => simp [not_not.mp hlen, ht, hd]
    · next hno =>
      refine iff_of_false Bool.false_ne_true ?_
      rintro ⟨-, t, d, ht, hd, -⟩
      exact hno t d ht hd

theorem exec_checkTime_ok {prm : Bytes} (s : State) (h : timeAgrees prm = true) :
    exec (.checkTime prm) s = .next (answered OK s) := by
  simp only [exec, execCheckTime, h, if_true, respond_OK]

theorem exec_checkTime_err {prm : Bytes} (s : State) (h : ¬ timeAgrees prm = true) :
    exec (.checkTime prm) s = .next (answered ERR s) := by
  simp only [exec, execCheckTime, if_neg h, respond_ERR]

/-- Settles O6: the stamp of a valid sample is 14 bytes, so the answer fits. -/
theorem getTimeAnswersSampledClock : Obligations.GetTimeAnswersSampledClock := by
  unfold Obligations.GetTimeAnswersSampledClock
  intro prm s
  refine ⟨Laws.decode_encode (.getTime prm), fun hvalid => ⟨stamp_length hvalid, ?_⟩⟩
  exact exec_answered (P := timePayload (rtcNow s)) (u := rtcSampled s) rfl (sendable_timePayload hvalid).le

/-- Settles O5: each cause of ERR contradicts one condition of `timeAgrees_iff`. -/
theorem checkTimeComparesWeekday : Obligations.CheckTimeComparesWeekday := by
  unfold Obligations.CheckTimeComparesWeekday
  intro prm s
  refine ⟨Laws.decode_encode (.checkTime prm), fun t d hlen ht hd hday => ?_, fun hcause => ?_⟩
  · exact exec_checkTime_ok s (timeAgrees_iff.mpr ⟨hlen, t, d, ht, hd, hday⟩)
  · refine exec_checkTime_err s fun hagrees => ?_
    obtain ⟨hlen, t, d, ht, hd, hday⟩ := timeAgrees_iff.mp hagrees
    rcases hcause with hlen' | ht' | hd' | ⟨d', hd', hday'⟩
    · exact hlen' hlen
    · cases ht'.symm.trans ht
    · cases hd'.symm.trans hd
    · obtain rfl := Option.some.inj (hd'.symm.trans hd)
      exact hday' hday

/-! ### The mode commands (R175, R195) -/

section
variable {prm : Bytes} (s : State)

theorem exec_setWorkType_of_some {w : WorkType} (h : workTypeParam prm = some w) :
    exec (.setWorkType prm) s = .next (answered OK { s with workType := w }) := by
  simp only [exec, execSetWorkType, h, respond_OK]

theorem exec_setWorkType_of_none (h : workTypeParam prm = none) :
    exec (.setWorkType prm) s = .next (answered ERR s) := by
  simp only [exec, execSetWorkType, h, respond_ERR]

theorem exec_setProtocolMode_of_some {m : ProtocolMode} (h : protocolModeParam prm = some m) :
    exec (.setProtocolMode prm) s = .next (answered OK { s with protocolMode := m }) := by
  simp only [exec, execSetProtocolMode, h, respond_OK]

theorem exec_setProtocolMode_of_none (h : protocolModeParam prm = none) :
    exec (.setProtocolMode prm) s = .next (answered ERR s) := by
  simp only [exec, execSetProtocolMode, h, respond_ERR]

end

/-- Settles O7: the three digits are the three values of `workTypeParam`. -/
theorem setWorkTypeStoresOneDigit : Obligations.SetWorkTypeStoresOneDigit := by
  unfold Obligations.SetWorkTypeStoresOneDigit
  intro s
  refine ⟨fun prm => Laws.decode_encode (.setWorkType prm), exec_setWorkType_of_some s (by decide),
    exec_setWorkType_of_some s (by decide), exec_setWorkType_of_some s (by decide), fun prm h1 h2 h3 => ?_⟩
  exact exec_setWorkType_of_none s (by simp only [workTypeParam, if_neg h1, if_neg h2, if_neg h3])

/-- Settles O11: the two digits are the two values of `protocolModeParam`. -/
theorem setProtocolModeStoresOneDigit : Obligations.SetProtocolModeStoresOneDigit := by
  unfold Obligations.SetProtocolModeStoresOneDigit
  intro s
  refine ⟨fun prm => Laws.decode_encode (.setProtocolMode prm), exec_setProtocolMode_of_some s (by decide),
    exec_setProtocolMode_of_some s (by decide), fun prm h0 h1 => ?_⟩
  exact exec_setProtocolMode_of_none s (by simp only [protocolModeParam, if_neg h0, if_neg h1])

/-! ### The roster commands (R176 to R178, R197) -/

section
variable {prm : Bytes} {s : State}

theorem personParam_of_short (h : prm.length < 16) : personParam prm = none := if_pos h

/-- With 16 bytes, only the date decides (`30_encoding.md` R82). -/
theorem personParam_of_le (h : 16 ≤ prm.length) : personParam prm = (parseDmy2 prm 10).map fun d =>
    { cardId := slice prm 0 8, table := slice prm 8 10, validUntil := d, name := prm.drop 16 } := by
  unfold personParam
  rw [if_neg (by omega)]
  cases parseDmy2 prm 10 <;> rfl

theorem exec_addPerson_of_none (h : personParam prm = none) : exec (.addPerson prm) s = .next (answered ERR s) := by
  simp only [exec, execAddPerson, h, respond_ERR]

theorem exec_addPerson_full {p : Person} (h : personParam prm = some p)
    (hfull : s.persons.length = Config.maxPersons) : exec (.addPerson prm) s = .next (answered ERR s) := by
  simp only [exec, execAddPerson, h, rosterCount, if_pos hfull, respond_ERR]

theorem exec_addPerson_room {p : Person} (h : personParam prm = some p)
    (hroom : s.persons.length ≠ Config.maxPersons) :
    exec (.addPerson prm) s = .next (answered OK (rosterAppend p s)) := by
  simp only [exec, execAddPerson, h, rosterCount, if_neg hroom, respond_OK]

theorem exec_clearPersons : exec (.clearPersons prm) s = .next (answered OK (rosterClear s)) :=
  exec_answered rfl (by decide)

theorem exec_delPerson : exec (.delPerson prm) s = .next (answered OK (rosterRemoveAll prm s)) :=
  exec_answered rfl (by decide)

end

/-- DEL_PERSON keeps exactly the persons whose card id differs. -/
theorem rosterRemoveAll_eq_filter_ne (k : Bytes) (s : State) :
    rosterRemoveAll k s = { s with persons := s.persons.filter (fun p => decide (p.cardId ≠ k)) } := by
  have hsame : ∀ p ∈ s.persons, (p.cardId != k) = decide (p.cardId ≠ k) := fun p _ => by
    rw [Bool.eq_iff_iff, bne_iff_ne, decide_eq_true_iff]
  rw [rosterRemoveAll, List.filter_congr hsame]

/-- A number that fits its width reads back from what `dec` writes (`41_dispatch.md` R147, R153). -/
theorem num_dec {v w : Nat} (h : v < 10 ^ w) : num? (dec v w) 0 w = some v :=
  num_of_prefix (A := []) List.prefix_rfl rfl h

/-- Settles O13: at most 99999 fits five digits. -/
theorem personCountAnswersFiveDigits : Obligations.PersonCountAnswersFiveDigits := by
  unfold Obligations.PersonCountAnswersFiveDigits
  intro prm s
  refine ⟨Laws.decode_encode (.personCount prm), fun hmax => ?_⟩
  have hfits : s.persons.length < 10 ^ 5 := by omega
  have hlen : (dec s.persons.length 5).length = 5 := dec_length_of_lt hfits
  have htotal : (count5Payload s.persons.length).length ≤ 252 := by simp [count5Payload, hlen]
  exact ⟨dec s.persons.length 5, hlen, num_dec hfits, exec_answered rfl htotal⟩

/-- Settles O8: short params and a bad date are no person; with a person, the roster's room decides. -/
theorem addPersonAppendsOrErrs : Obligations.AddPersonAppendsOrErrs := by
  unfold Obligations.AddPersonAppendsOrErrs
  intro prm s
  refine ⟨Laws.decode_encode (.addPerson prm), fun hshort => ?_, fun hlen hbad => ?_, fun d hlen hd hfull => ?_,
    fun d hlen hd hroom => ?_⟩
  · exact exec_addPerson_of_none (personParam_of_short hshort)
  · exact exec_addPerson_of_none (by rw [personParam_of_le hlen, hbad, Option.map_none])
  · exact exec_addPerson_full (by rw [personParam_of_le hlen, hd, Option.map_some]) hfull
  · exact exec_addPerson_room (by rw [personParam_of_le hlen, hd, Option.map_some]) hroom

/-- Settles O9: both answer OK from the roster as they leave it. -/
theorem clearAndDelPersonRemove : Obligations.ClearAndDelPersonRemove := by
  unfold Obligations.ClearAndDelPersonRemove
  intro prm s
  refine ⟨Laws.decode_encode (.clearPersons prm), Laws.decode_encode (.delPerson prm), exec_clearPersons, ?_⟩
  rw [← rosterRemoveAll_eq_filter_ne]
  exact exec_delPerson

/-! ### The smart-card commands (R179 to R188) -/

/-- An unsupported smart-card command answers ERR (`60_exceptions.md` R223). -/
theorem decode_and_exec_err {i : Instr} {s : State} (h : exec i s = .next (respond ERR s)) :
    decode (encode i) = .ok i ∧ exec i s = .next (answered ERR s) :=
  decode_and_exec_answered h (by decide)

/-- Settles O10: 52 has a card to answer, the empty one; the nine others have none. -/
theorem mifareIdsAnswerFixed : Obligations.MifareIdsAnswerFixed := by
  unfold Obligations.MifareIdsAnswerFixed
  intro prm s
  exact ⟨decode_and_exec_answered (i := .mifare52 prm) (P := EMPTY_CARD) rfl (by decide),
    decode_and_exec_err (i := .mifare54 prm) rfl, decode_and_exec_err (i := .mifare55 prm) rfl,
    decode_and_exec_err (i := .mifare56 prm) rfl, decode_and_exec_err (i := .mifare58 prm) rfl,
    decode_and_exec_err (i := .mifare59 prm) rfl, decode_and_exec_err (i := .mifare62 prm) rfl,
    decode_and_exec_err (i := .mifare63 prm) rfl, decode_and_exec_err (i := .mifare70 prm) rfl,
    decode_and_exec_err (i := .mifare71 prm) rfl⟩

/-! ### The log commands (R196, R198, R199) -/

section
variable {prm : Bytes} {s : State}

theorem exec_ackLog_pending (h : s.readCursor.toNat < s.attLog.length) :
    exec (.ackLog prm) s = .next (noresp { s with readCursor := s.readCursor + 1 }) := by
  simp only [exec, execAckLog, logLen, gt_iff_lt, if_pos h]

theorem exec_ackLog_caughtUp (h : s.attLog.length ≤ s.readCursor.toNat) :
    exec (.ackLog prm) s = .next (noresp s) := by
  simp only [exec, execAckLog, logLen, gt_iff_lt, if_neg (Nat.not_lt.mpr h)]

/-- The cursor does not wrap while it is below its largest value (`10_state.md` R25). -/
theorem cursor_add_one_toNat {c : Count32} (h : c.toNat < 4294967295) : (c + 1).toNat = c.toNat + 1 :=
  BitVec.toNat_add_of_lt (Nat.succ_lt_succ h)

theorem isDel_iff : isDel prm = true ↔ prm = [0x44, 0x45, 0x4C] := beq_iff_eq

theorem exec_clearLog_del (s : State) : exec (.clearLog [0x44, 0x45, 0x4C]) s = .next (answered OK (resetLog s)) :=
  exec_answered rfl (by decide)

theorem exec_clearLog_other (s : State) (h : prm ≠ [0x44, 0x45, 0x4C]) :
    exec (.clearLog prm) s = .next (answered ERR s) := by
  simp only [exec, execClearLog, if_neg (mt isDel_iff.mp h), respond_ERR]

end

/-- Settles O14: the log's length and a 32-bit cursor fit ten digits each. -/
theorem logStatusAnswersLengthAndCursor : Obligations.LogStatusAnswersLengthAndCursor := by
  unfold Obligations.LogStatusAnswersLengthAndCursor
  intro prm s
  refine ⟨Laws.decode_encode (.logStatus prm), fun hmax => ?_, fun hs => hs.cursor_le_log⟩
  have hlog : s.attLog.length < 10 ^ 10 := by omega
  have hcursor : s.readCursor.toNat < 10 ^ 10 := s.readCursor.isLt.trans (by decide)
  have hloglen := dec_length_of_lt hlog
  have hcursorlen := dec_length_of_lt hcursor
  have htotal : (count10x2Payload s.attLog.length s.readCursor.toNat).length ≤ 252 := by
    simp [count10x2Payload, hloglen, hcursorlen]
  exact ⟨dec s.attLog.length 10, dec s.readCursor.toNat 10, hloglen, hcursorlen, num_dec hlog, num_dec hcursor,
    exec_answered rfl htotal⟩

/-- Settles O12: a cursor below a log of at most 2^32 - 1 records is below its largest value. -/
theorem ackLogAdvancesWhilePending : Obligations.AckLogAdvancesWhilePending := by
  unfold Obligations.AckLogAdvancesWhilePending
  intro prm s
  exact ⟨Laws.decode_encode (.ackLog prm), exec_ackLog_pending,
    fun hpending hmax => cursor_add_one_toNat (hpending.trans_le hmax), exec_ackLog_caughtUp⟩

/-- Settles O15: `isDel` holds of one params string only. -/
theorem clearLogOnExactDel : Obligations.ClearLogOnExactDel := by
  unfold Obligations.ClearLogOnExactDel
  intro s
  exact ⟨fun prm => Laws.decode_encode (.clearLog prm), exec_clearLog_del s, fun _ => exec_clearLog_other s⟩

end Sys2Proof.Machine

/-! ## The steps that are no command, and that no step stops (`60_exceptions.md`)

Every pick of a live block is carried out and leaves it live (`NextLive`), whatever the block holds. RESET and
LINK_RESET are read here field by field. -/

namespace Sys2Proof.Machine

/-! ### No step stops after the first RESET (`60_exceptions.md` R220, R227) -/

/-- The step goes on, in a state that has been reset. -/
def NextLive (o : Host.Outcome State Fault Refusal) : Prop := ∃ t, o = .next t ∧ t.live = true

theorem nextLive_next {t : State} (h : t.live = true) : NextLive (.next t) := ⟨t, rfl, h⟩

@[simp] theorem txByte_live (s : State) : (txByte s).live = s.live := by
  cases hq : s.txQ with
  | nil => rw [txByte_nil hq]
  | cons b q => rw [txByte_cons hq]

@[simp] theorem injectRecord_live (ts : DateTime) (cid : Bytes) (s : State) :
    (injectRecord ts cid s).live = s.live := by
  rcases injectRecord_cases ts cid s with ⟨-, h⟩ | ⟨-, -, h⟩ | ⟨-, -, h⟩ <;> simp [h]

section
variable {s : State}

theorem exec_nextLive (i : Instr) (hl : s.live = true) : NextLive (exec i s) := by
  obtain ⟨u, t, -, -, ht⟩ := exec_completes i s
  exact ⟨t, ht, (exec_keeps ht).live.trans hl⟩

theorem dispatch_nextLive (P : Bytes) (hl : s.live = true) : NextLive (dispatch P s) := by
  rcases dispatch_cases P s with ⟨-, hd⟩ | ⟨id, prm, -, -, hd⟩ | ⟨i, -, hd⟩ <;> rw [hd]
  · exact nextLive_next hl
  · exact nextLive_next (by simpa using hl)
  · exact exec_nextLive i (by simpa using hl)

theorem complete_nextLive (hl : s.live = true) : NextLive (complete s) := by
  cases ha : frameAccept s.rxBuf with
  | error c => rw [complete_of_error ha]; exact nextLive_next hl
  | ok P => rw [complete_of_ok ha]; exact dispatch_nextLive P hl

theorem rxByte_nextLive (b : Byte) (hl : s.live = true) : NextLive (rxByte b s) := by
  rcases rxByte_cases b s with ⟨buf, n, r, hb⟩ | ⟨buf, n, hb⟩ <;> rw [hb]
  · exact nextLive_next hl
  · exact complete_nextLive hl

theorem rxPick_nextLive (hl : s.live = true) : NextLive (rxPick s) := by
  rcases rxPick_cases s with hn | ⟨b, held, -, -, hb⟩
  · rw [hn]; exact nextLive_next hl
  · rw [hb]; exact rxByte_nextLive b hl

theorem runChoice_nextLive (c : Choice) (hl : s.live = true) : NextLive (runChoice c s) := by
  cases c with
  | reset cfg => exact nextLive_next rfl
  | rx => rw [runChoice_rx hl]; exact rxPick_nextLive hl
  | tx => rw [runChoice_tx hl]; exact nextLive_next ((txByte_live s).trans hl)
  | linkReset => rw [runChoice_linkReset hl]; exact nextLive_next hl
  | inject ts cid => rw [runChoice_inject ts cid hl]; exact nextLive_next ((injectRecord_live ts cid s).trans hl)

end

/-- Settles O56: with no pick the block is idle, and every pick goes on in a live state (`runChoice_nextLive`). -/
theorem stepNeverStopsAfterReset : Obligations.StepNeverStopsAfterReset := by
  unfold Obligations.StepNeverStopsAfterReset
  intro s hl
  cases hs : s.sched with
  | nil => exact ⟨s, step_of_sched_nil hs hl, hl⟩
  | cons c later =>
    rw [step_of_sched_cons hs]
    exact runChoice_nextLive c hl

/-! ### LINK_RESET (`60_exceptions.md` R236) -/

/-- Settles O47: the pick is carried out, and `linkReset` writes the framer and the queue only. -/
theorem linkResetKeepsTheDevice : Obligations.LinkResetKeepsTheDevice := by
  unfold Obligations.LinkResetKeepsTheDevice
  intro s later hl hs
  exact (step_of_sched_cons hs).trans (runChoice_linkReset (s := { s with sched := later }) hl)

/-! ### RESET (`70_reset_and_hazards.md` R250, R251) -/

/-- The work type a RESET loads: an input out of range is coerced to 3. -/
theorem workTypeInput_getD (v : Byte) : (workTypeInput v).getD .onOff =
    if v = 1 then .online else if v = 2 then .offline else .onOff := by
  unfold workTypeInput
  split_ifs <;> rfl

theorem workTypeInput_isNone (v : Byte) : (workTypeInput v).isNone = true ↔ v ∉ ([1, 2, 3] : Bytes) := by
  unfold workTypeInput
  split_ifs <;> simp_all

/-- The protocol mode a RESET loads: an input out of range is coerced to 0. -/
theorem protocolModeInput_getD (v : Byte) : (protocolModeInput v).getD .client =
    if v = 1 then .server else .client := by
  unfold protocolModeInput
  split_ifs <;> simp_all

theorem protocolModeInput_isNone (v : Byte) : (protocolModeInput v).isNone = true ↔ v ∉ ([0, 1] : Bytes) := by
  unfold protocolModeInput
  split_ifs <;> simp_all

/-- The coercion events with the ranges written out, work type first (`60_exceptions.md` R241). -/
theorem coercionEvents_eq (cfg : ConfigInputs) : coercionEvents cfg =
    (if cfg.workType ∈ ([1, 2, 3] : Bytes) then [] else [.configCoerced .workType cfg.workType]) ++
    (if cfg.protocolMode ∈ ([0, 1] : Bytes) then [] else [.configCoerced .protocolMode cfg.protocolMode]) := by
  simp only [coercionEvents, workTypeInput_isNone, protocolModeInput_isNone, ite_not]

/-- Settles O49: RESET is carried out in any state; its two modes and its events are read by the lemmas above. -/
theorem resetLoadsEveryField : Obligations.ResetLoadsEveryField := by
  unfold Obligations.ResetLoadsEveryField
  intro s cfg later hs
  rw [← workTypeInput_getD, ← protocolModeInput_getD, ← coercionEvents_eq]
  exact (step_of_sched_cons hs).trans (runChoice_reset cfg)

end Sys2Proof.Machine

/-! ## The responses, read as commands (`70_reset_and_hazards.md`) -/

namespace Sys2Proof.Machine

theorem decode_of_not_mem_assignedIds {id : Byte} (h : id ∉ assignedIds) (prm : Bytes) :
    decode (id :: prm) = .error (.unassigned id prm) := by
  rcases decode_cons_cases id prm with ⟨hmem, -⟩ | ⟨-, hd⟩
  · exact absurd hmem h
  · exact hd

/-- Settles O33: the OK payload is the encoding of ACK_LOG without params, and no other response letter of
`30_encoding.md` R86 is in the CommandId map. -/
theorem okFrameIsAnAckLogFrame : Obligations.OkFrameIsAnAckLogFrame := by
  unfold Obligations.OkFrameIsAnAckLogFrame
  have hfree : ∀ c ∈ ([0x68, 0x6E, 0x61, 0x62, 0x63, 0x64, 0x7A] : Bytes), c ∉ assignedIds := by decide
  exact ⟨fun _ hrid => frameAccept_frameBytes (by decide) hrid, Laws.decode_encode (.ackLog []),
    fun c prm hc => decode_of_not_mem_assignedIds (hfree c hc) prm⟩

end Sys2Proof.Machine
